-- ==== Sys2Proof/Word.lean ====
section
/-! DEFINITION. The words of the wire formats and the index types of the TG-24's tables. -/
namespace Sys2Proof

/-- One byte of a packet (R177). -/
abbrev Byte := BitVec 8

/-- One 24-bit audio sample as a TDM slot carries it, two's complement (R126). -/
abbrev Sample := BitVec 24

/-- A client lane, 0..3; lane 0 is the head lane (R178, R183). -/
abbrev LaneId := Fin 4

/-- A listening zone, Z0..Z3. -/
abbrev Zone := Fin 4

/-- A zone set as the wire and the record carry it: bit n stands for Zn (section 10.9, "zones"). -/
abbrev ZoneSet := BitVec 4

/-- A route slot, 0..31 (R19). -/
abbrev SlotId := Fin 32

/-- A speaker, 0..23 (R1). -/
abbrev SpeakerId := Fin 24

/-- An output port, 0..2, with its amplifier (R157). -/
abbrev PortId := Fin 3

/-- A mix lane of a speaker, 0..7 (R112). -/
abbrev MixId := Fin 8

end Sys2Proof
end

