-- ==== Sys2Proof/Config.lean ====
section
/-! DEFINITION. What the spec leaves open: the part's free values. -/
namespace Sys2Proof

/-- Free value (DESIGN CHOICE, log entry 9; safe). R120 does not order the CROWDED notices of waiting
marks that are newly set at one speaker, so it does not say whose handle is raised last. The n-th
time that matters, the route raised last is the one at this number, taken modulo how many there are. -/
opaque Config.crowdedPick : Nat → Nat

end Sys2Proof
end

