-- ==== Sys2Proof/Syntax.lean ====
section
/-! DEFINITION. The commands of the TG-24: one constructor per row of spec/opcode_table.json. -/
namespace Sys2Proof

/-- The request kinds of the kind code table (section 10.9). -/
inductive Kind where
  | null | getStatus | getNotices | setLimit | setMode | clearProtect
  | openRoute | adjust | close | query | list
  | speed | setStale | setMaster | setZone | setCrankDelay
  | loadSpeaker | loadCurve | loadDuck | loadRamp | loadTone | loadVoicing | setQuota
  deriving DecidableEq, Repr

/-- A packet window whose header is sound (R177, R178): the header's lane and payload length, and
every complete byte that followed the four header bytes in the window. The header's kind is the
command's row. The window clocked 4 + body.length bytes each way. -/
structure Window where
  lane   : LaneId
  length : BitVec 16
  body   : List Byte
  deriving DecidableEq, Repr

/-- The levels of the input lines that a reset samples at once (R157, R167, R173). -/
structure Lines where
  wakeHigh      : Bool
  crankAsserted : Bool
  awarn         : Vector Bool 3
  deriving DecidableEq, Repr

/-- One command: a request in its packet window, an edge or a length on a pin, or an event of one of
the part's own timers. -/
inductive Instr where
  /-- POWER_ON: the lines as sampled at power-on (R167). -/
  | powerOn (lines : Lines)
  /-- RST_N_ASSERT (R167). -/
  | rstNAssert
  /-- RST_N_RELEASE: the lines as sampled at the release (R167). -/
  | rstNRelease (lines : Lines)
  /-- WAKE_FALL: a falling edge on WAKE (R163). -/
  | wakeFall
  /-- FAULT_CLEAR_PULSE: the rising edge of WAKE that ends a low of this many nanoseconds (R163, R166). -/
  | faultClearPulse (lowNs : Nat)
  /-- ENTRY_TO_STANDBY: a WAKE low reaches 100 µs; CRANK_N and AWARN0..2 as sampled there (R163). -/
  | entryToStandby (crankAsserted : Bool) (awarn : Vector Bool 3)
  /-- WAKE_UP: the rising edge of WAKE that ends a low of 100 µs or more (R165). -/
  | wakeUp
  /-- WAKE_UP_STOPPED: a WAKE low during the wake-up reaches 2 µs (R165). -/
  | wakeUpStopped
  /-- END_OF_WAKE_UP: the 2 ms of the wake-up have run out (R165). -/
  | endOfWakeUp
  /-- NULL (R181). -/
  | null (w : Window)
  /-- HEADER_FAULT: the complete bytes of a window whose packet has a faulty header (R179). -/
  | headerFault (sdi : List Byte)
  /-- UNKNOWN_KIND: a sound header whose kind code names no kind (R181). -/
  | unknownKind (code : BitVec 6) (w : Window)
  /-- GET_STATUS (R191). -/
  | getStatus (w : Window)
  /-- GET_NOTICES (R190). -/
  | getNotices (w : Window)
  /-- SET_LIMIT (R187). -/
  | setLimit (w : Window)
  /-- SET_MODE with action RUN, and a SET_MODE that names no action (R168, R169). -/
  | setModeRun (w : Window)
  /-- SET_MODE with action SETUP (R170). -/
  | setModeSetup (w : Window)
  /-- END_OF_LEAVING: the Route Table's report of the empty table during LEAVING (R171). -/
  | endOfLeaving
  /-- SET_MODE with action HUSH_ON (R172). -/
  | hushOn (w : Window)
  /-- SET_MODE with action HUSH_OFF (R172). -/
  | hushOff (w : Window)
  /-- CLEAR_PROTECT (R155). -/
  | clearProtect (w : Window)
  /-- OPEN (R32). -/
  | openRoute (w : Window)
  /-- ADJUST (R35). -/
  | adjust (w : Window)
  /-- CLOSE (R38). -/
  | close (w : Window)
  /-- QUERY (R46). -/
  | query (w : Window)
  /-- LIST (R48). -/
  | list (w : Window)
  /-- SPEED (R71). -/
  | speed (w : Window)
  /-- SET_STALE (R75). -/
  | setStale (w : Window)
  /-- SET_MASTER (R9). -/
  | setMaster (w : Window)
  /-- SET_ZONE (R8). -/
  | setZone (w : Window)
  /-- SET_CRANK_DELAY (R175). -/
  | setCrankDelay (w : Window)
  /-- LOAD_SPEAKER (R4). -/
  | loadSpeaker (w : Window)
  /-- LOAD_CURVE (R80). -/
  | loadCurve (w : Window)
  /-- LOAD_DUCK (R54). -/
  | loadDuck (w : Window)
  /-- LOAD_RAMP (R100). -/
  | loadRamp (w : Window)
  /-- LOAD_TONE (R138). -/
  | loadTone (w : Window)
  /-- LOAD_VOICING (R137). -/
  | loadVoicing (w : Window)
  /-- SET_QUOTA (R25). -/
  | setQuota (w : Window)
  /-- PASS: the Gain Resolver's pass, whole (R88, R89). -/
  | pass
  /-- PASS_REPORT: the Route Table takes the pass report (R28). -/
  | passReport
  /-- HOLD_TIMER_EXPIRY: the hold timer of the route in this slot runs out (R40). -/
  | holdTimerExpiry (slot : SlotId)
  /-- SLEW_STEP: the Speed Monitor's millisecond event (R76). -/
  | slewStep
  /-- STALE_TIMER_EXPIRY: the stale timer runs out (R74). -/
  | staleTimerExpiry
  /-- TONE_WALK_EXPIRY: the tone walk timers run out, all at the same moment (R140, R141). -/
  | toneWalkExpiry
  /-- FRAME_EVENT: the 256th bit of a frame is sampled; the sixteen input samples (R126). -/
  | frameEvent (samples : Vector Sample 16)
  /-- FRAME_DISCARD: an FSYNC rising edge before the 256th bit (R126). -/
  | frameDiscard
  /-- CLOCK_LOSS: 250 µs have passed without a recognised FSYNC rising edge (R128). -/
  | clockLoss
  /-- OVERLOAD_EVENT: an overload event at this speaker (R148). -/
  | overloadEvent (speaker : SpeakerId)
  /-- RETRY_TIMER_EXPIRY: this speaker's retry timer runs out (R153). -/
  | retryTimerExpiry (speaker : SpeakerId)
  /-- ESCALATION_WINDOW_EXPIRY: this speaker's escalation window runs out (R154). -/
  | escalationWindowExpiry (speaker : SpeakerId)
  /-- AWARN_SAMPLE: the Protection Monitor's millisecond event, with the lines it samples (R157). -/
  | awarnSample (awarn : Vector Bool 3)
  /-- THERMAL_HOLD_EXPIRY: this port's thermal hold timer runs out (R157). -/
  | thermalHoldExpiry (port : PortId)
  /-- CRANK_N_SAMPLE: the Mode Controller's millisecond event, with the line it samples (R173). -/
  | crankNSample (asserted : Bool)
  /-- CRANK_RELEASE_TIMER_EXPIRY: the crank release timer runs out (R173). -/
  | crankReleaseTimerExpiry
  /-- ROUTE_TABLE_MILLISECOND_EVENT (R40). -/
  | routeTableMillisecondEvent
  /-- FRAME_BEGIN: an FSYNC rising edge (R126, R127, R128). -/
  | frameBegin
  /-- PACKET_WINDOW_BEGIN: the falling edge of CS_N (R177). -/
  | packetWindowBegin
  deriving DecidableEq, Repr

end Sys2Proof
end

