-- ==== Sys2Proof/Decode.lean ====
section
/-! DEFINITION. The wire formats of the Control Link (section 10.9): checksums, headers, fields, and
the command that the bytes of a packet window spell. Then the encoder of those commands, and the
host's decodeTableWord. -/
namespace Sys2Proof

/-- Apply a function n times. -/
def applyTimes {α : Type} (f : α → α) : Nat → α → α
  | 0, x => x
  | n + 1, x => applyTimes f n (f x)

/-- One shift of the CRC-8 register, polynomial 0x07 (R178). -/
def crc8Shift (r : BitVec 8) : BitVec 8 :=
  if r.msb then (r <<< 1) ^^^ 0x07#8 else r <<< 1

/-- The CRC-8 of R178: initial value 0xFF, not inverted. -/
def crc8 (bs : List Byte) : Byte :=
  bs.foldl (fun r b => applyTimes crc8Shift 8 (r ^^^ b)) 0xFF#8

/-- One shift of the CRC-16 register, polynomial 0x1021 (R178). -/
def crc16Shift (r : BitVec 16) : BitVec 16 :=
  if r.msb then (r <<< 1) ^^^ 0x1021#16 else r <<< 1

/-- The CRC-16 of R178: initial value 0xFFFF, each byte into the top eight bits, not inverted. -/
def crc16 (bs : List Byte) : BitVec 16 :=
  bs.foldl (fun r b => applyTimes crc16Shift 8 (r ^^^ (b ++ 0#8))) 0xFFFF#16

/-- The kind code table (section 10.9). -/
def Kind.code : Kind → BitVec 6
  | .null => 0x00#6
  | .getStatus => 0x01#6
  | .getNotices => 0x02#6
  | .setLimit => 0x03#6
  | .setMode => 0x08#6
  | .clearProtect => 0x09#6
  | .openRoute => 0x10#6
  | .adjust => 0x11#6
  | .close => 0x12#6
  | .query => 0x13#6
  | .list => 0x14#6
  | .speed => 0x18#6
  | .setStale => 0x19#6
  | .setMaster => 0x20#6
  | .setZone => 0x21#6
  | .setCrankDelay => 0x22#6
  | .loadSpeaker => 0x28#6
  | .loadCurve => 0x29#6
  | .loadDuck => 0x2A#6
  | .loadRamp => 0x2B#6
  | .loadTone => 0x2C#6
  | .loadVoicing => 0x2D#6
  | .setQuota => 0x2E#6

/-- The kinds in the order of their codes. -/
def Kind.all : List Kind :=
  [.null, .getStatus, .getNotices, .setLimit, .setMode, .clearProtect, .openRoute, .adjust, .close,
    .query, .list, .speed, .setStale, .setMaster, .setZone, .setCrankDelay, .loadSpeaker,
    .loadCurve, .loadDuck, .loadRamp, .loadTone, .loadVoicing, .setQuota]

/-- The kind a code names, none where it names no kind (R181). -/
def Kind.ofCode (c : BitVec 6) : Option Kind := Kind.all.find? (fun k => k.code = c)

/-- Tags and value sizes of the fields each kind may carry (section 10.9, "Request fields"). -/
def Kind.fields : Kind → List (Nat × Nat)
  | .null | .getStatus | .getNotices | .clearProtect => []
  | .setLimit => [(0x16, 2)]
  | .setMode => [(0x13, 1)]
  | .openRoute => [(0x02, 1), (0x03, 1), (0x04, 1), (0x05, 1), (0x06, 2), (0x07, 3), (0x08, 1),
      (0x09, 1), (0x0A, 2)]
  | .adjust => [(0x01, 2), (0x05, 1), (0x06, 2), (0x07, 3), (0x08, 1), (0x09, 1), (0x0A, 2)]
  | .close => [(0x01, 2), (0x0B, 1)]
  | .query => [(0x01, 2)]
  | .list => [(0x0C, 1)]
  | .speed => [(0x10, 2)]
  | .setStale => [(0x11, 2)]
  | .setMaster => [(0x06, 2), (0x23, 1), (0x27, 1)]
  | .setZone => [(0x22, 1), (0x06, 2), (0x23, 1), (0x24, 1), (0x25, 1), (0x26, 1)]
  | .setCrankDelay => [(0x12, 2)]
  | .loadSpeaker => [(0x20, 1), (0x21, 8)]
  | .loadCurve => [(0x31, 1), (0x32, 24)]
  | .loadDuck => [(0x02, 1), (0x30, 10)]
  | .loadRamp => [(0x09, 1), (0x33, 2), (0x34, 2)]
  | .loadTone => [(0x35, 1), (0x36, 1), (0x37, 15)]
  | .loadVoicing => [(0x20, 1), (0x38, 60)]
  | .setQuota => [(0x14, 1), (0x15, 1)]

/-- The kinds whose payload is faulty when it has no handle field (R182). -/
def Kind.needsHandle : Kind → Bool
  | .adjust | .close | .query => true
  | _ => false

/-- The value size of a tag for a kind, none when the table does not list the tag for it (R182). -/
def Kind.fieldSize (k : Kind) (tag : Byte) : Option Nat :=
  (k.fields.find? (fun f => f.1 = tag.toNat)).map (·.2)

/-- One field of a payload: its tag and the bytes of its value (R182). -/
structure Field where
  tag   : Byte
  value : List Byte
  deriving DecidableEq, Repr

/-- Split a payload into fields; none when a tag is not the kind's or a value is cut short (R182).
The first argument bounds the number of fields. -/
def splitFields (k : Kind) : Nat → List Byte → Option (List Field)
  | _, [] => some []
  | 0, _ :: _ => none
  | n + 1, tag :: rest =>
    match k.fieldSize tag with
    | none => none
    | some size =>
      if rest.length < size then none
      else (splitFields k n (rest.drop size)).map (fun fs => ⟨tag, rest.take size⟩ :: fs)

/-- The fields of a payload, none where the structure check of R182 finds it faulty. -/
def readFields (k : Kind) (payload : List Byte) : Option (List Field) :=
  match splitFields k payload.length payload with
  | none => none
  | some fs =>
    if (fs.map (·.tag)).Nodup ∧ (k.needsHandle → 0x01#8 ∈ fs.map (·.tag)) then some fs else none

/-- Low byte first: the number the bytes of a field spell (section 10.9). -/
def leNat : List Byte → Nat
  | [] => 0
  | b :: bs => b.toNat + 256 * leNat bs

/-- Low byte first, two's complement (section 10.9, "s"). -/
def leInt (bs : List Byte) : Int :=
  if 2 ^ (8 * bs.length) ≤ 2 * leNat bs then (leNat bs : Int) - 2 ^ (8 * bs.length) else leNat bs

/-- The value bytes of a field, none when the field is absent. -/
def fieldValue (fs : List Field) (tag : Byte) : Option (List Byte) :=
  (fs.find? (fun f => f.tag = tag)).map (·.value)

/-- The payload bytes of a window, as far as they arrived (R178). -/
def Window.payload (w : Window) : List Byte := w.body.take w.length.toNat

/-- A payload fault (R180): a length above 508, a window that ends before the payload and its CRC-16,
or a CRC-16 that differs. A packet of length 0 ends with its header. -/
def Window.payloadFault (w : Window) : Bool :=
  if w.length = 0#16 then false
  else if 508 < w.length.toNat then true
  else
    match w.body.drop w.length.toNat with
    | hi :: lo :: _ => decide (hi ++ lo ≠ crc16 w.payload)
    | _ => true

/-- The fields a window hands to the owner of its kind, none where R180 or R182 finds a fault. -/
def Window.fields (w : Window) (k : Kind) : Option (List Field) :=
  if w.payloadFault then none else readFields k w.payload

/-- The action code a SET_MODE window carries, none where it carries none (R168). -/
def Window.action (w : Window) : Option Nat :=
  match w.fields .setMode with
  | none => none
  | some fs => (fieldValue fs 0x13#8).map leNat

/-- The four bytes of a header: lane and kind, length low byte first, CRC-8 (R178). -/
def headerBytes (lane : LaneId) (code : BitVec 6) (length : BitVec 16) : List Byte :=
  let b0 : Byte := BitVec.ofFin lane ++ code
  let b1 : Byte := length.extractLsb' 0 8
  let b2 : Byte := length.extractLsb' 8 8
  [b0, b1, b2, crc8 [b0, b1, b2]]

/-- A sound header. -/
structure Header where
  lane   : LaneId
  code   : BitVec 6
  length : BitVec 16
  deriving DecidableEq, Repr

/-- The header a window's bytes begin with, none when it is faulty (R179). -/
def readHeader : List Byte → Option Header
  | b0 :: b1 :: b2 :: b3 :: _ =>
    if b3 = crc8 [b0, b1, b2] then
      some { lane := (b0.extractLsb' 6 2).toFin, code := b0.extractLsb' 0 6, length := b2 ++ b1 }
    else none
  | _ => none

/-- The command a sound packet of this kind is. A SET_MODE that names no action stands under
SET_MODE_RUN (R168). -/
def commandOf (k : Kind) (w : Window) : Instr :=
  match k with
  | .null => .null w
  | .getStatus => .getStatus w
  | .getNotices => .getNotices w
  | .setLimit => .setLimit w
  | .setMode =>
    match w.action with
    | some 1 => .setModeSetup w
    | some 2 => .hushOn w
    | some 3 => .hushOff w
    | _ => .setModeRun w
  | .clearProtect => .clearProtect w
  | .openRoute => .openRoute w
  | .adjust => .adjust w
  | .close => .close w
  | .query => .query w
  | .list => .list w
  | .speed => .speed w
  | .setStale => .setStale w
  | .setMaster => .setMaster w
  | .setZone => .setZone w
  | .setCrankDelay => .setCrankDelay w
  | .loadSpeaker => .loadSpeaker w
  | .loadCurve => .loadCurve w
  | .loadDuck => .loadDuck w
  | .loadRamp => .loadRamp w
  | .loadTone => .loadTone w
  | .loadVoicing => .loadVoicing w
  | .setQuota => .setQuota w

/-- The command that the complete bytes of a packet window spell (R178, R179, R181). -/
def decodeWindow (sdi : List Byte) : Instr :=
  match readHeader sdi with
  | none => .headerFault sdi
  | some h =>
    match Kind.ofCode h.code with
    | none => .unknownKind h.code ⟨h.lane, h.length, sdi.drop 4⟩
    | some k => commandOf k ⟨h.lane, h.length, sdi.drop 4⟩

/-- The bytes of a window whose header is sound. -/
def windowBytes (code : BitVec 6) (w : Window) : List Byte := headerBytes w.lane code w.length ++ w.body

/-- The bytes of the packet window that a command is, none for a command that is no packet. -/
def encodeWindow : Instr → Option (List Byte)
  | .headerFault sdi => some sdi
  | .unknownKind code w => some (windowBytes code w)
  | .null w => some (windowBytes Kind.null.code w)
  | .getStatus w => some (windowBytes Kind.getStatus.code w)
  | .getNotices w => some (windowBytes Kind.getNotices.code w)
  | .setLimit w => some (windowBytes Kind.setLimit.code w)
  | .setModeRun w => some (windowBytes Kind.setMode.code w)
  | .setModeSetup w => some (windowBytes Kind.setMode.code w)
  | .hushOn w => some (windowBytes Kind.setMode.code w)
  | .hushOff w => some (windowBytes Kind.setMode.code w)
  | .clearProtect w => some (windowBytes Kind.clearProtect.code w)
  | .openRoute w => some (windowBytes Kind.openRoute.code w)
  | .adjust w => some (windowBytes Kind.adjust.code w)
  | .close w => some (windowBytes Kind.close.code w)
  | .query w => some (windowBytes Kind.query.code w)
  | .list w => some (windowBytes Kind.list.code w)
  | .speed w => some (windowBytes Kind.speed.code w)
  | .setStale w => some (windowBytes Kind.setStale.code w)
  | .setMaster w => some (windowBytes Kind.setMaster.code w)
  | .setZone w => some (windowBytes Kind.setZone.code w)
  | .setCrankDelay w => some (windowBytes Kind.setCrankDelay.code w)
  | .loadSpeaker w => some (windowBytes Kind.loadSpeaker.code w)
  | .loadCurve w => some (windowBytes Kind.loadCurve.code w)
  | .loadDuck w => some (windowBytes Kind.loadDuck.code w)
  | .loadRamp w => some (windowBytes Kind.loadRamp.code w)
  | .loadTone w => some (windowBytes Kind.loadTone.code w)
  | .loadVoicing w => some (windowBytes Kind.loadVoicing.code w)
  | .setQuota w => some (windowBytes Kind.setQuota.code w)
  | .powerOn _ | .rstNAssert | .rstNRelease _ | .wakeFall | .faultClearPulse _
  | .entryToStandby _ _ | .wakeUp | .wakeUpStopped | .endOfWakeUp | .endOfLeaving | .pass
  | .passReport | .holdTimerExpiry _ | .slewStep | .staleTimerExpiry | .toneWalkExpiry
  | .frameEvent _ | .frameDiscard | .clockLoss | .overloadEvent _ | .retryTimerExpiry _
  | .escalationWindowExpiry _ | .awarnSample _ | .thermalHoldExpiry _ | .crankNSample _
  | .crankReleaseTimerExpiry | .routeTableMillisecondEvent | .frameBegin | .packetWindowBegin => none

/-- The window that carries these payload bytes from this lane, framed as R178 frames them. -/
def Window.ofPayload (lane : LaneId) (payload : List Byte) : Window :=
  if payload = [] then ⟨lane, 0#16, []⟩
  else
    ⟨lane, BitVec.ofNat 16 payload.length,
      payload ++ [(crc16 payload).extractLsb' 8 8, (crc16 payload).extractLsb' 0 8]⟩

/-- The command that a word spells by the bits of spec/opcode_table.json. The table gives no row any
bits, so no word spells one (log entry 26). -/
def decodeTableWord (_nbits _w : Nat) : Option Instr := none

end Sys2Proof
end

