-- ==== Sys2Proof/WellFormed.lean ====
section
/-! DEFINITION. The checks a command must pass to be a command of its row. -/
namespace Sys2Proof

/-- The bytes hold a faulty header (R179). -/
def wfHeaderFault (sdi : List Byte) : Bool := (readHeader sdi).isNone

/-- The code names no kind (R181). -/
def wfUnknownKind (code : BitVec 6) : Bool := (Kind.ofCode code).isNone

/-- A low that R163 calls a fault-clear pulse: 2 µs or more and less than 100 µs. -/
def wfPulse (lowNs : Nat) : Bool := decide (2000 ≤ lowNs) && decide (lowNs < 100000)

/-- The SET_MODE window names the row's action (R168); one that names no action stands under RUN. -/
def wfAction (w : Window) : Nat → Bool
  | 0 => decide (w.action ≠ some 1 ∧ w.action ≠ some 2 ∧ w.action ≠ some 3)
  | n + 1 => decide (w.action = some (n + 1))

/-- The command is one its row describes. -/
def Instr.wf : Instr → Bool
  | .headerFault sdi => wfHeaderFault sdi
  | .unknownKind code _ => wfUnknownKind code
  | .faultClearPulse lowNs => wfPulse lowNs
  | .setModeRun w => wfAction w 0
  | .setModeSetup w => wfAction w 1
  | .hushOn w => wfAction w 2
  | .hushOff w => wfAction w 3
  | .powerOn _ | .rstNAssert | .rstNRelease _ | .wakeFall | .entryToStandby _ _ | .wakeUp
  | .wakeUpStopped | .endOfWakeUp | .null _ | .getStatus _ | .getNotices _ | .setLimit _
  | .endOfLeaving | .clearProtect _ | .openRoute _ | .adjust _ | .close _ | .query _ | .list _
  | .speed _ | .setStale _ | .setMaster _ | .setZone _ | .setCrankDelay _ | .loadSpeaker _
  | .loadCurve _ | .loadDuck _ | .loadRamp _ | .loadTone _ | .loadVoicing _ | .setQuota _ | .pass
  | .passReport | .holdTimerExpiry _ | .slewStep | .staleTimerExpiry | .toneWalkExpiry
  | .frameEvent _ | .frameDiscard | .clockLoss | .overloadEvent _ | .retryTimerExpiry _
  | .escalationWindowExpiry _ | .awarnSample _ | .thermalHoldExpiry _ | .crankNSample _
  | .crankReleaseTimerExpiry | .routeTableMillisecondEvent | .frameBegin | .packetWindowBegin => true

end Sys2Proof
end

