-- ==== Sys2Proof/Machine/State.lean ====
section
/-! DEFINITION. The state of the TG-24, block by block, and its values after reset. -/
namespace Sys2Proof.Machine

/-- The operating modes (R161). -/
inductive Mode where
  | standby | setup | run | leaving
  deriving DecidableEq, Repr

/-- The classes; a higher code wins (00_scope.md, "Classes"). -/
inductive RouteClass where
  | media | chime | guide | call | alert
  deriving DecidableEq, Repr

inductive Width where
  | mono | stereo
  deriving DecidableEq, Repr

/-- The states of a non-FREE route (R27). -/
inductive RouteState where
  | opening | live | closing
  deriving DecidableEq, Repr

/-- The close causes (R30). -/
inductive CloseCause where
  | request | cut | expired | forced
  deriving DecidableEq, Repr

inductive Side where
  | left | right | centre
  deriving DecidableEq, Repr

inductive Row where
  | front | rear | middle
  deriving DecidableEq, Repr

/-- Where a speaker serves: one zone, or the cabin as a whole (R3). -/
inductive Place where
  | zoned (z : Zone)
  | shared
  deriving DecidableEq, Repr

/-- The protection modes of a speaker entry (R1). -/
inductive ProtMode where
  | off | report | retryFast | retrySlow | latch
  deriving DecidableEq, Repr

inductive LatchCause where
  | direct | escalated
  deriving DecidableEq, Repr

/-- A speaker's protection state; the latch cause is present in LATCHED alone (R146). -/
inductive ProtState where
  | normal
  | tripped
  | latched (cause : LatchCause)
  deriving DecidableEq, Repr

/-- A port's thermal state (R157). -/
inductive Thermal where
  | clear | warned | holding
  deriving DecidableEq, Repr

inductive Freshness where
  | fresh | stale
  deriving DecidableEq, Repr

inductive ClockState where
  | running | lost
  deriving DecidableEq, Repr

/-- WAKE: high, low and being measured, or low with 100 µs reached (R163, R167). -/
inductive WakeLine where
  | high | low | longLow
  deriving DecidableEq, Repr

/-- The result codes (section 10.9). -/
inductive Result where
  | done | adjusted | full | quota | stale | denied | mode | busy | late | badarg | check | unknown
  deriving DecidableEq, Repr

/-- The notice kinds (R189). -/
inductive Notice where
  | expired | freed | crowded | spill | forced | mode | protect | stale | clock
  deriving DecidableEq, Repr

/-- The name of a route: slot and generation (R21). -/
structure Handle where
  slot : SlotId
  gen  : BitVec 8
  deriving DecidableEq, Repr

/-- A speaker entry (R1). -/
structure SpeakerEntry where
  present   : Bool
  place     : Place
  side      : Side
  row       : Row
  trim      : Int
  protMode  : ProtMode
  threshold : Nat
  deglitch  : Nat
  deriving DecidableEq, Repr

/-- A zone setting (R6); curve none is NONE. -/
structure ZoneSetting where
  level  : Int
  mute   : Bool
  bass   : Int
  treble : Int
  curve  : Option (Fin 4)
  deriving DecidableEq, Repr

/-- The Cabin Map (R1, R6, R7). -/
structure Cabin where
  speakers    : Vector SpeakerEntry 24
  zones       : Vector ZoneSetting 4
  masterLevel : Int
  masterMute  : Bool
  toneZone    : Zone
  deriving DecidableEq, Repr

/-- A placement: balance and fade (R20). -/
structure Placement where
  balance : Int
  fade    : Int
  deriving DecidableEq, Repr

/-- A route record (R20). Its handle is its slot with the slot's generation. -/
structure Route where
  owner        : LaneId
  cls          : RouteClass
  source       : Fin 16
  width        : Width
  zones        : ZoneSet
  level        : Int
  placement    : Option Placement
  followsSpeed : Bool
  ramp         : Fin 8
  holdTime     : Option Nat
  state        : RouteState
  cause        : Option CloseCause
  holdLeft     : Option Nat
  deriving DecidableEq, Repr

/-- A route slot: its generation, and its route unless it is FREE (R19). -/
structure Slot where
  gen   : BitVec 8
  route : Option Route
  deriving DecidableEq, Repr

/-- The report of a pass: routes found settled and routes found silent (R107). -/
structure PassReport where
  settled : List Handle
  silent  : List Handle
  deriving DecidableEq, Repr

/-- The Route Table (R19, R23, R24) with the report handed to it and not yet taken (R28). -/
structure RouteTable where
  slots  : Vector Slot 32
  order  : List SlotId
  quotas : Vector Nat 4
  report : Option PassReport
  deriving DecidableEq, Repr

/-- The Precedence Unit: duck matrix by aggressor row and victim column, spill flags (R53, R63). -/
structure Precedence where
  duck  : Vector (Vector Nat 5) 5
  spill : Vector Bool 32
  deriving DecidableEq, Repr

/-- A point of a speed curve (R79). -/
structure CurvePoint where
  speed : Nat
  gain  : Int
  deriving DecidableEq, Repr

/-- The Speed Monitor (R70). -/
structure SpeedMonitor where
  reported   : Nat
  effective  : Nat
  freshness  : Freshness
  staleTimer : Option Nat
  staleTime  : Nat
  curves     : Vector (Vector CurvePoint 8) 4
  deriving DecidableEq, Repr

/-- A cell's gains (R86) and the Lane Arbiter's two marks on it (R112). -/
structure Cell where
  target   : Int
  applied  : Int
  yielding : Bool
  waiting  : Bool
  deriving DecidableEq, Repr

/-- One speaker's column: its cell of every slot, and the holders of its eight mix lanes (R112). -/
structure Column where
  cells : Vector Cell 32
  lanes : Vector (Option SlotId) 8
  deriving DecidableEq, Repr

/-- A ramp profile, in steps per pass (R99). -/
structure RampProfile where
  rise : Int
  fall : Int
  deriving DecidableEq, Repr

/-- The Mixer's record of a mix lane (R132); 48 frames counted means the glide has ended. -/
structure MixLane where
  holder : Option SlotId
  gain   : Int
  start  : Int
  goal   : Int
  frames : Nat
  deriving DecidableEq, Repr

/-- The Mixer (R126 to R132, R142): clock state, µs left of the 250 µs measurement, whether a frame
is in progress, lanes, gates (true is open), held samples and the samples being transmitted. -/
structure Mixer where
  clock     : ClockState
  fsyncLeft : Nat
  inFrame   : Bool
  lanes     : Vector (Vector MixLane 8) 24
  gates     : Vector Bool 24
  held      : Vector Int 24
  sending   : Vector Int 24
  deriving DecidableEq, Repr

/-- The coefficients of a section, in units of 2^-22 (R136). -/
structure Coeffs where
  b0 : Int
  b1 : Int
  b2 : Int
  a1 : Int
  a2 : Int
  deriving DecidableEq, Repr

/-- The state values of a section (R136). -/
structure SectionState where
  x1 : Int
  x2 : Int
  y1 : Int
  y2 : Int
  deriving DecidableEq, Repr

/-- One speaker's part of the Equaliser: sections in the order of R136 (voicing 0 to 3, low shelf,
high shelf), applied tone indices, tone walk timer in ms. -/
structure SpeakerEq where
  voicing   : Vector Coeffs 4
  low       : Coeffs
  high      : Coeffs
  state     : Vector SectionState 6
  lowIndex  : Int
  highIndex : Int
  walk      : Option Nat
  deriving DecidableEq, Repr

/-- The Equaliser: entry i of a tone table kind is tone index i - 12 (R138). -/
structure Equaliser where
  speakers : Vector SpeakerEq 24
  toneLow  : Vector Coeffs 25
  toneHigh : Vector Coeffs 25
  deriving DecidableEq, Repr

/-- One speaker's part of the Protection Monitor (R146); timers in ms, none is stopped. -/
structure SpeakerProt where
  state   : ProtState
  counter : Nat
  retry   : Option Nat
  repeats : Nat
  window  : Option Nat
  report  : Bool
  deriving DecidableEq, Repr

/-- One port's thermal state and hold timer (R157). -/
structure PortThermal where
  state : Thermal
  hold  : Option Nat
  deriving DecidableEq, Repr

/-- The Protection Monitor (R146). -/
structure Protection where
  speakers : Vector SpeakerProt 24
  ports    : Vector PortThermal 3
  summary  : Bool
  deriving DecidableEq, Repr

/-- A response: lane and kind code of its request, and its payload (R184, R186). -/
structure Response where
  lane    : LaneId
  code    : BitVec 6
  payload : List Byte
  deriving DecidableEq, Repr

/-- A notice set (R189): which kinds stand in it, by Notice.index, and the latest handle. -/
structure NoticeSet where
  kinds  : Vector Bool 9
  latest : Option Handle
  deriving DecidableEq, Repr

/-- The packet window: CS_N high; a window that is not taken (R164, R165); or a window with the
status byte and the head response that its beginning fixed (R177). -/
inductive ChipSelect where
  | idle
  | ignored
  | active (status : Byte) (head : Option Response)
  deriving DecidableEq, Repr

/-- The Link Interface (R179, R181, R184, R187, R189). The capture is none when EMPTY. sdo is what
SDO carried in the latest window, empty at high impedance (the model's own field, log entry 25). -/
structure Link where
  queue       : List Response
  notices     : Vector NoticeSet 4
  limits      : Vector Nat 4
  capture     : Option (List Byte)
  laterErrors : Nat
  linkErr     : Bool
  overrun     : Bool
  window      : ChipSelect
  sdo         : List Byte
  deriving DecidableEq, Repr

/-- The Mode Controller (R161, R163, R165, R173, R175); wakeUp is the ms left of a wake-up. -/
structure ModeControl where
  mode       : Mode
  host       : Bool
  crank      : Bool
  crankTimer : Option Nat
  crankDelay : Nat
  wake       : WakeLine
  wakeUp     : Option Nat
  deriving DecidableEq, Repr

/-- RST_N, and CRANK_N and AWARN0..2 as last sampled (R157, R167, R173). -/
structure Pins where
  rstAsserted   : Bool
  crankAsserted : Bool
  awarn         : Vector Bool 3
  deriving DecidableEq, Repr

/-- The whole block. pending is the queue of waiting commands; free counts the free values read
(log entry 9). The grid has one column of cells and lanes per speaker. -/
structure State where
  pending : List Instr
  free    : Nat
  pins    : Pins
  ctl     : ModeControl
  cabin   : Cabin
  table   : RouteTable
  prec    : Precedence
  speed   : SpeedMonitor
  grid    : Vector Column 24
  ramps   : Vector RampProfile 8
  mixer   : Mixer
  eq      : Equaliser
  prot    : Protection
  link    : Link
  deriving DecidableEq, Repr

/-- The spec gives the block no event that stops it: there is no fault. -/
inductive Fault where
  deriving DecidableEq, Repr

/-- Why a command is refused. -/
inductive Refusal where
  /-- A command of the table that has no meaning yet; no meaning answers with it. Safe. -/
  | notModelled (mnemonic : String)
  deriving DecidableEq, Repr

/-- R1's power-on entry. -/
def SpeakerEntry.reset : SpeakerEntry :=
  { present := false, place := .zoned 0, side := .centre, row := .middle, trim := 0
    protMode := .report, threshold := 0, deglitch := 4 }

/-- R6's power-on setting. -/
def ZoneSetting.reset : ZoneSetting := { level := 0, mute := false, bass := 0, treble := 0, curve := none }

/-- R1, R6, R7. -/
def Cabin.reset : Cabin :=
  { speakers := Vector.replicate 24 .reset, zones := Vector.replicate 4 .reset
    masterLevel := -96, masterMute := false, toneZone := 0 }

/-- R19, R23, R24. -/
def RouteTable.reset : RouteTable :=
  { slots := Vector.replicate 32 ⟨0#8, none⟩, order := [], quotas := #v[32, 8, 8, 8], report := none }

/-- R53, R63. -/
def Precedence.reset : Precedence :=
  { duck := #v[#v[0, 0, 0, 0, 0], #v[24, 0, 0, 0, 0], #v[48, 12, 480, 0, 0], #v[96, 24, 24, 0, 0],
      #v[480, 480, 72, 48, 0]]
    spill := Vector.replicate 32 false }

/-- R79's flat curve. -/
def flatCurve : Vector CurvePoint 8 := Vector.ofFn fun i => ⟨150 * i.val, 0⟩

/-- R70. -/
def SpeedMonitor.reset : SpeedMonitor :=
  { reported := 0, effective := 0, freshness := .stale, staleTimer := none, staleTime := 500
    curves := Vector.replicate 4 flatCurve }

/-- A cell of a slot that no route holds (R86, R110, R124). -/
def Cell.silent : Cell := { target := -480, applied := -480, yielding := false, waiting := false }

/-- A column with every cell silent and every lane free (R110, R124). -/
def Column.silent : Column := { cells := Vector.replicate 32 .silent, lanes := Vector.replicate 8 none }

/-- R99. -/
def rampsReset : Vector RampProfile 8 :=
  #v[⟨1, 1⟩, ⟨2, 2⟩, ⟨4, 4⟩, ⟨8, 8⟩, ⟨4, 16⟩, ⟨16, 16⟩, ⟨48, 48⟩, ⟨480, 480⟩]

/-- A lane of the Mixer that no cell holds, its gain 0 and its glide ended (R143, R144). -/
def MixLane.silent : MixLane := { holder := none, gain := 0, start := 0, goal := -480, frames := 48 }

/-- The Mixer's lanes all silent (R143, R144). -/
def mixLanesSilent : Vector (Vector MixLane 8) 24 := Vector.replicate 24 (Vector.replicate 8 .silent)

/-- R143. The measurement and the frame in progress: DESIGN CHOICE, log entry 15. -/
def Mixer.reset : Mixer :=
  { clock := .lost, fsyncLeft := 0, inFrame := false, lanes := mixLanesSilent
    gates := Vector.replicate 24 true, held := Vector.replicate 24 0
    sending := Vector.replicate 24 0 }

/-- A flat section: b0 = 2^22, the others 0 (R136). -/
def Coeffs.flat : Coeffs := { b0 := 4194304, b1 := 0, b2 := 0, a1 := 0, a2 := 0 }

/-- A section at rest. -/
def SectionState.rest : SectionState := { x1 := 0, x2 := 0, y1 := 0, y2 := 0 }

/-- Every state value of a speaker's six sections 0. -/
def sectionsAtRest : Vector SectionState 6 := Vector.replicate 6 .rest

/-- R143. -/
def Equaliser.reset : Equaliser :=
  { speakers := Vector.replicate 24
      { voicing := Vector.replicate 4 .flat, low := .flat, high := .flat, state := sectionsAtRest
        lowIndex := 0, highIndex := 0, walk := none }
    toneLow := Vector.replicate 25 .flat, toneHigh := Vector.replicate 25 .flat }

/-- R146: a speaker NORMAL with every timer stopped and every count and flag clear. -/
def SpeakerProt.clear : SpeakerProt :=
  { state := .normal, counter := 0, retry := none, repeats := 0, window := none, report := false }

/-- R157: a port's thermal state taken from its line, no hold timer running. -/
def PortThermal.ofLine (asserted : Bool) : PortThermal :=
  { state := if asserted then .warned else .clear, hold := none }

/-- R146, R159. -/
def Protection.reset (awarn : Vector Bool 3) : Protection :=
  { speakers := Vector.replicate 24 .clear, ports := Vector.ofFn fun i => .ofLine awarn[i], summary := false }

/-- An empty notice set with no latest handle (R189). -/
def NoticeSet.empty : NoticeSet := { kinds := Vector.replicate 9 false, latest := none }

/-- R192. -/
def Link.reset : Link :=
  { queue := [], notices := Vector.replicate 4 .empty, limits := Vector.replicate 4 64
    capture := none, laterErrors := 0, linkErr := false, overrun := false, window := .idle, sdo := [] }

/-- R167, R173: the Mode Controller after power-on and RST_N, with the lines as sampled. A WAKE low
counts as having reached 100 µs; with WAKE high a wake-up of 2 ms has begun. -/
def ModeControl.reset (lines : Lines) : ModeControl :=
  { mode := .standby, host := false, crank := lines.crankAsserted, crankTimer := none
    crankDelay := 300, wake := if lines.wakeHigh then .high else .longLow
    wakeUp := if lines.wakeHigh then some 2 else none }

/-- Every block at its power-on values (R167) with the lines as sampled. -/
def State.powerOn (lines : Lines) : State :=
  { pending := [], free := 0
    pins := { rstAsserted := false, crankAsserted := lines.crankAsserted, awarn := lines.awarn }
    ctl := .reset lines, cabin := .reset, table := .reset, prec := .reset, speed := .reset
    grid := Vector.replicate 24 .silent, ramps := rampsReset, mixer := .reset, eq := .reset
    prot := .reset lines.awarn, link := .reset }

/-- The lines at State.reset: WAKE high, CRANK_N and AWARN0..2 released (DESIGN CHOICE, log entry 1;
unsafe). -/
def resetLines : Lines := { wakeHigh := true, crankAsserted := false, awarn := Vector.replicate 3 false }

/-- The part just after power-on (R167). -/
def State.reset : State := State.powerOn resetLines

end Sys2Proof.Machine
end

