-- ==== Sys2Proof/Machine/Ops.lean ====
section
/-! DEFINITION. Shared operations: arithmetic of steps and samples, table updates, timers, notices,
and the framing of answers. -/
namespace Sys2Proof.Machine

/-- Replace a value outside lo..hi by the nearer end (00_scope.md, "Numbers and ranges"). -/
def clampTo (lo hi x : Int) : Int := if x < lo then lo else if hi < x then hi else x

/-- clampTo for numbers that are never negative. -/
def clampNat (lo hi x : Nat) : Nat := if x < lo then lo else if hi < x then hi else x

/-- n / d rounded to nearest, half away from zero, for d above 0 (R82, R133). -/
def roundAway (n d : Int) : Int :=
  if 0 ≤ n then (2 * n + d) / (2 * d) else -((2 * (-n) + d) / (2 * d))

/-- Saturation to 24 bits (R135). -/
def sat24 (x : Int) : Int := clampTo (-8388608) 8388607 x

/-- The conversion table of R131. -/
def linTable : Vector Int 24 :=
  #v[8388608, 8149801, 7917792, 7692387, 7473400, 7260647,
    7053950, 6853138, 6658043, 6468501, 6284355, 6105452,
    5931642, 5762779, 5598724, 5439339, 5284492, 5134053,
    4987896, 4845900, 4707947, 4573921, 4443710, 4317206]

/-- The number of steps above the next doubling, (-q) mod 24 (R131). -/
def linIndex (q : Int) : Fin 24 := ⟨((-q) % 24).toNat, by omega⟩

/-- The linear gain of a gain in steps (R131). -/
def lin (q : Int) : Int :=
  if q = -480 then 0
  else
    let t := linTable[linIndex q]
    let m := (q + ((-q) % 24)) / 24
    if 0 ≤ m then t * 2 ^ m.toNat else (t + 2 ^ ((-m).toNat - 1)) / 2 ^ (-m).toNat

/-- Change one entry of a table. -/
def upd {α : Type} {n : Nat} (v : Vector α n) (i : Fin n) (f : α → α) : Vector α n :=
  v.set i.val (f v[i.val])

/-- A number as an index below n, none when it is not below n. -/
def finOf (n m : Nat) : Option (Fin n) := if h : m < n then some ⟨m, h⟩ else none

/-- The remaining time of a timer after a count of one; none is stopped. -/
def countDown : Option Nat → Option Nat
  | some (n + 2) => some (n + 1)
  | _ => none

/-- The timer's remaining time reaches 0 at the next count. -/
def expiresNext : Option Nat → Bool
  | some n => decide (n ≤ 1)
  | none => false

/-- A number as two bytes, low byte first (section 10.9). -/
def le16 (n : Nat) : List Byte := [BitVec.ofNat 8 n, BitVec.ofNat 8 (n / 256)]

/-- A signed number as two bytes, low byte first (section 10.9). -/
def leInt16 (x : Int) : List Byte := le16 (BitVec.ofInt 16 x).toNat

/-- A number as one byte. -/
def byte (n : Nat) : Byte := BitVec.ofNat 8 n

/-- A flag as one byte, 0 or 1. -/
def flagByte (b : Bool) : Byte := if b then 1#8 else 0#8

/-- The handle of the route in a slot (R21). -/
def State.handleAt (s : State) (i : SlotId) : Handle := ⟨i, s.table.slots[i].gen⟩

/-- The route in a slot, none when it is FREE. -/
def State.routeAt (s : State) (i : SlotId) : Option Route := s.table.slots[i].route

/-- The number of non-FREE slots (R26). -/
def RouteTable.count (t : RouteTable) : Nat := t.slots.toList.countP (·.route.isSome)

/-- A hush cause is present (R173). -/
def State.hushed (s : State) : Bool := s.ctl.host || s.ctl.crank

/-- A cell holds a mix lane of its column (R112). -/
def Column.holds (c : Column) (i : SlotId) : Bool := decide (some i ∈ c.lanes.toList)

/-- The place of a notice kind in a set, as the bits of GET_NOTICES number it (section 10.9). -/
def Notice.index : Notice → Fin 9
  | .expired => 0
  | .freed => 1
  | .crowded => 2
  | .spill => 3
  | .forced => 4
  | .mode => 5
  | .protect => 6
  | .stale => 7
  | .clock => 8

/-- A kind joins the set; a notice with a handle makes it the latest handle (R189). -/
def NoticeSet.add (ns : NoticeSet) (k : Notice) (h : Option Handle) : NoticeSet :=
  { kinds := upd ns.kinds k.index fun _ => true
    latest := match h with
      | some h => some h
      | none => ns.latest }

/-- Raise a notice into a lane's set (R189). -/
def State.raise (s : State) (lane : LaneId) (k : Notice) (h : Option Handle) : State :=
  { s with link := { s.link with notices := upd s.link.notices lane fun ns => ns.add k h } }

/-- Raise a route notice into the owner's set for each of these slots in turn; a slot that is FREE
raises none. -/
def State.raiseFor (s : State) (k : Notice) : List SlotId → State
  | [] => s
  | i :: rest =>
    match s.routeAt i with
    | some r => State.raiseFor (s.raise r.owner k (some (s.handleAt i))) k rest
    | none => State.raiseFor s k rest

/-- An owner's answer: a result code and the items of its data (R186). -/
structure Answer where
  result : Result
  items  : List (List Byte)
  deriving DecidableEq, Repr

/-- An answer that carries no data. -/
def Answer.plain (r : Result) : Answer := { result := r, items := [] }

/-- DONE or ADJUSTED without data. -/
def Answer.taken (adjusted : Bool) : Answer := .plain (if adjusted then .adjusted else .done)

/-- The result codes (section 10.9). -/
def Result.code : Result → Byte
  | .done => 0x00#8
  | .adjusted => 0x01#8
  | .full => 0x10#8
  | .quota => 0x11#8
  | .stale => 0x12#8
  | .denied => 0x13#8
  | .mode => 0x14#8
  | .busy => 0x15#8
  | .late => 0x16#8
  | .badarg => 0x20#8
  | .check => 0x21#8
  | .unknown => 0x22#8

/-- The items that fit whole into this much room, in order up to the first that does not, and whether
one was left out (R186). -/
def cutItems : Nat → List (List Byte) → List Byte × Bool
  | _, [] => ([], false)
  | room, item :: rest =>
    if item.length ≤ room then
      (item ++ (cutItems (room - item.length) rest).1, (cutItems (room - item.length) rest).2)
    else ([], true)

/-- The payload of a response under a limit: result code, flags with TRUNC in bit 0, data (R186). -/
def Answer.payload (a : Answer) (limit : Nat) : List Byte :=
  a.result.code :: flagByte (cutItems (limit - 2) a.items).2 :: (cutItems (limit - 2) a.items).1

/-- The bytes of a response on SDO: header, payload, CRC-16 high byte first (R185, section 10.9). -/
def Response.bytes (r : Response) : List Byte :=
  headerBytes r.lane r.code (BitVec.ofNat 16 r.payload.length) ++ r.payload
    ++ [(crc16 r.payload).extractLsb' 8 8, (crc16 r.payload).extractLsb' 0 8]

/-- Place a response at the tail of the queue (R184). -/
def State.queueResponse (s : State) (r : Response) : State :=
  { s with link := { s.link with queue := s.link.queue ++ [r] } }

/-- The mode controller's mode. -/
def State.mode (s : State) : Mode := s.ctl.mode

end Sys2Proof.Machine
end

