-- ==== Sys2Proof/Machine/Flags.lean ====
section
/-! DEFINITION. The status summary byte and ATTN_N (R188), and the codes in which answers report state. -/
namespace Sys2Proof.Machine

/-- RESP: the response queue holds a response. -/
def State.flagResp (s : State) : Bool := !s.link.queue.isEmpty

/-- A notice set holds a notice. -/
def NoticeSet.nonEmpty (ns : NoticeSet) : Bool := ns.kinds.toList.any id

/-- NOTICE: one of the four sets holds a notice. -/
def State.flagNotice (s : State) : Bool := s.link.notices.toList.any NoticeSet.nonEmpty

/-- PROTECT: the summary flag. -/
def State.flagProtect (s : State) : Bool := s.prot.summary

/-- STALE: the freshness state is STALE. -/
def State.flagStale (s : State) : Bool := decide (s.speed.freshness = .stale)

/-- CLOCK_LOST: the clock state is CLOCK_LOST. -/
def State.flagClockLost (s : State) : Bool := decide (s.mixer.clock = .lost)

/-- The status summary byte, bits 7 to 0 (R188). -/
def State.statusByte (s : State) : Byte :=
  BitVec.ofBool s.flagResp ++ BitVec.ofBool s.flagNotice ++ BitVec.ofBool s.flagProtect
    ++ BitVec.ofBool s.flagStale ++ BitVec.ofBool s.flagClockLost ++ BitVec.ofBool s.link.linkErr
    ++ BitVec.ofBool s.link.overrun ++ BitVec.ofBool s.hushed

/-- ATTN_N is driven low (R188); released while RST_N is asserted (R167) and in STANDBY (R164). -/
def State.attnLow (s : State) : Bool :=
  !s.pins.rstAsserted && decide (s.ctl.mode ≠ .standby)
    && (s.flagResp || s.flagNotice || s.flagProtect || s.link.linkErr || s.link.overrun)

/-- The mode as GET_STATUS reports it; STANDBY is never reported (R161). -/
def Mode.code : Mode → Byte
  | .standby => 0#8
  | .setup => 1#8
  | .run => 2#8
  | .leaving => 3#8

/-- Hush causes: bit 0 HOST, bit 1 CRANK. -/
def State.hushByte (s : State) : Byte :=
  BitVec.ofBool false ++ BitVec.ofNat 5 0 ++ BitVec.ofBool s.ctl.crank ++ BitVec.ofBool s.ctl.host

def ClockState.code : ClockState → Byte
  | .running => 0#8
  | .lost => 1#8

def Freshness.code : Freshness → Byte
  | .fresh => 0#8
  | .stale => 1#8

def Thermal.code : Thermal → Byte
  | .clear => 0#8
  | .warned => 1#8
  | .holding => 2#8

/-- A speaker's byte of GET_STATUS: state with latch cause in bits 1..0, report flag in bit 7. -/
def SpeakerProt.byte (p : SpeakerProt) : Byte :=
  BitVec.ofBool p.report ++ BitVec.ofNat 5 0 ++
    (match p.state with
      | .normal => 0#2
      | .tripped => 1#2
      | .latched .direct => 2#2
      | .latched .escalated => 3#2)

def RouteClass.code : RouteClass → Nat
  | .media => 0
  | .chime => 1
  | .guide => 2
  | .call => 3
  | .alert => 4

def Width.code : Width → Nat
  | .mono => 0
  | .stereo => 1

def RouteState.code : RouteState → Nat
  | .opening => 0
  | .live => 1
  | .closing => 2

/-- A close cause in a QUERY answer; 0xFF is absent. -/
def causeByte : Option CloseCause → Byte
  | some .request => 0#8
  | some .cut => 1#8
  | some .expired => 2#8
  | some .forced => 3#8
  | none => 0xFF#8

/-- The kinds present in a notice set, 2 bytes low byte first (section 10.9, GET_NOTICES). -/
def NoticeSet.kindBytes (ns : NoticeSet) : List Byte :=
  le16 (leBits ns.kinds.toList)
where
  /-- The number whose bit n is the n-th flag. -/
  leBits : List Bool → Nat
    | [] => 0
    | b :: bs => (if b then 1 else 0) + 2 * leBits bs

end Sys2Proof.Machine
end

