-- ==== Sys2Proof/Machine/Operands.lean ====
section
/-! DEFINITION. The operands of the requests: reading a field's value and the codes in it
(section 10.9, "Request fields"). -/
namespace Sys2Proof.Machine

/-- The number in a field, none when the field is absent. -/
def natField (fs : List Field) (tag : Byte) : Option Nat := (fieldValue fs tag).map leNat

/-- The signed number in a field, none when the field is absent. -/
def intField (fs : List Field) (tag : Byte) : Option Int := (fieldValue fs tag).map leInt

/-- An optional coded field: none when its code names nothing, some none when it is absent. -/
def codeField {α : Type} (fs : List Field) (tag : Byte) (read : Nat → Option α) : Option (Option α) :=
  match natField fs tag with
  | none => some none
  | some n => (read n).map some

/-- A field is present. -/
def hasField (fs : List Field) (tag : Byte) : Bool := (fieldValue fs tag).isSome

/-- 0 no or off, 1 yes or on. -/
def boolOfCode : Nat → Option Bool
  | 0 => some false
  | 1 => some true
  | _ => none

def RouteClass.ofCode : Nat → Option RouteClass
  | 0 => some .media
  | 1 => some .chime
  | 2 => some .guide
  | 3 => some .call
  | 4 => some .alert
  | _ => none

/-- The row or column of a class in the duck matrix (R53). -/
def RouteClass.index : RouteClass → Fin 5
  | .media => 0
  | .chime => 1
  | .guide => 2
  | .call => 3
  | .alert => 4

def Width.ofCode : Nat → Option Width
  | 0 => some .mono
  | 1 => some .stereo
  | _ => none

/-- Zones Z0..Z3, 4 SHARED. -/
def Place.ofCode : Nat → Option Place
  | 0 => some (.zoned 0)
  | 1 => some (.zoned 1)
  | 2 => some (.zoned 2)
  | 3 => some (.zoned 3)
  | 4 => some .shared
  | _ => none

def Side.ofCode : Nat → Option Side
  | 0 => some .left
  | 1 => some .right
  | 2 => some .centre
  | _ => none

def Row.ofCode : Nat → Option Row
  | 0 => some .front
  | 1 => some .rear
  | 2 => some .middle
  | _ => none

def ProtMode.ofCode : Nat → Option ProtMode
  | 0 => some .off
  | 1 => some .report
  | 2 => some .retryFast
  | 3 => some .retrySlow
  | 4 => some .latch
  | _ => none

/-- A zone's speed curve: 0..3, 0xFF NONE. -/
def curveOfCode (n : Nat) : Option (Option (Fin 4)) :=
  if n = 255 then some none else (finOf 4 n).map some

/-- A zones byte: non-empty, with no bit above bit 3 (R33, R35). -/
def zonesOfCode (n : Nat) : Option ZoneSet :=
  if 1 ≤ n ∧ n ≤ 15 then some (BitVec.ofNat 4 n) else none

/-- A placement field: absent; the removal marker; or a placement as clamped, with whether the clamp
changed it. None when the form is neither (R33, R35, R36). -/
inductive PlacementArg where
  | absent
  | removal
  | placed (p : Placement) (adjusted : Bool)
  deriving DecidableEq, Repr

def placementField (fs : List Field) : Option PlacementArg :=
  match fieldValue fs 0x07#8 with
  | none => some .absent
  | some [form, b, f] =>
    if form = 0#8 then
      some (.placed ⟨clampTo (-20) 20 b.toInt, clampTo (-20) 20 f.toInt⟩
        (decide (clampTo (-20) 20 b.toInt ≠ b.toInt ∨ clampTo (-20) 20 f.toInt ≠ f.toInt)))
    else if form = 1#8 then some .removal
    else none
  | some _ => none

/-- Whether clamping a value that is present changes it. -/
def clampChanges (lo hi : Int) : Option Int → Bool
  | none => false
  | some x => decide (clampTo lo hi x ≠ x)

/-- The handle field as sent: slot 0..255 and generation (R21). -/
def handleField (fs : List Field) : Option (Nat × BitVec 8) :=
  match fieldValue fs 0x01#8 with
  | some [slot, gen] => some (slot.toNat, gen)
  | _ => none

/-- The non-FREE slot that a handle names, none where R21 answers STALE. -/
def State.slotOf (s : State) (h : Option (Nat × BitVec 8)) : Option (SlotId × Route) :=
  match h with
  | none => none
  | some (n, gen) =>
    match finOf 32 n with
    | none => none
    | some i =>
      match s.routeAt i with
      | none => none
      | some r => if gen = s.table.slots[i].gen ∧ gen ≠ 0#8 then some (i, r) else none

/-- The five coefficients of 3 bytes each at the head of a field (section 10.9). -/
def coeffsOf (bs : List Byte) : Coeffs :=
  { b0 := leInt (bs.take 3), b1 := leInt ((bs.drop 3).take 3), b2 := leInt ((bs.drop 6).take 3)
    a1 := leInt ((bs.drop 9).take 3), a2 := leInt ((bs.drop 12).take 3) }

end Sys2Proof.Machine
end

