-- ==== Sys2Proof/Machine/Link.lean ====
section
/-! DEFINITION. The Link Interface: packet windows, the checks of a request, the response queue, and
the requests the Link Interface takes itself (10_control_link.md). -/
namespace Sys2Proof.Machine

/-- Packets are taken in SETUP, RUN and LEAVING, and not while RST_N is asserted (R164, R167). -/
def State.takesPackets (s : State) : Bool := !s.pins.rstAsserted && decide (s.ctl.mode ≠ .standby)

/-- What the beginning of a window fixes: the status summary byte and the head response (R177). -/
def State.windowStart (s : State) : Byte × Option Response := (s.statusByte, s.link.queue.head?)

/-- What the window now ending was given at its beginning; none when it is not taken (R164, R165).
A packet whose window began without a PACKET_WINDOW_BEGIN began just before it (log entry 11). -/
def State.windowFixed (s : State) : Option (Byte × Option Response) :=
  if s.takesPackets then
    match s.link.window with
    | .idle => some s.windowStart
    | .ignored => none
    | .active status head => some (status, head)
  else none

/-- The bytes SDO carries in a window of n bytes: status byte, head response, then 0x00 (R185). -/
def sdoBytes (status : Byte) (head : Option Response) (n : Nat) : List Byte :=
  let out := status :: (match head with
    | some r => r.bytes
    | none => [])
  (out ++ List.replicate (n - out.length) 0#8).take n

/-- The head response was clocked out whole, after the status byte, in a window of n bytes (R185). -/
def delivered (head : Option Response) (n : Nat) : Bool :=
  match head with
  | some r => decide (1 + r.bytes.length ≤ n)
  | none => false

/-- The end of a window of n bytes: SDO's bytes recorded, the head response removed when it was
delivered, CS_N high (R177, R185). -/
def State.endWindow (s : State) (status : Byte) (head : Option Response) (n : Nat) : State :=
  { s with link := { s.link with
      window := .idle
      sdo := sdoBytes status head n
      queue := if delivered head n then s.link.queue.tail else s.link.queue } }

/-- The end of a window that is not taken: SDO was at high impedance and its bytes are not read
(R164, R165). -/
def State.dropWindow (s : State) : State :=
  { s with link := { s.link with window := .idle, sdo := [] } }

/-- The packet of a window of n bytes is taken as one event: first the head removal, then the packet
(R177). -/
def State.takeWindow (s : State) (n : Nat) (packet : State → State) : State :=
  match s.windowFixed with
  | none => s.dropWindow
  | some (status, head) => packet (s.endWindow status head n)

/-- Queue the answer to a request, cut at the limit its lane has (R184, R186). -/
def State.answer (s : State) (lane : LaneId) (code : BitVec 6) (limit : Nat) (a : Answer) : State :=
  s.queueResponse ⟨lane, code, a.payload limit⟩

/-- Lanes 1 to 3 may use these kinds; lane 0 may use every kind (R183). -/
def permitted (k : Kind) (lane : LaneId) : Bool :=
  decide (lane = 0) ||
    match k with
    | .null | .getStatus | .getNotices | .setLimit | .openRoute | .query | .list | .speed | .adjust
    | .close => true
    | .setMode | .clearProtect | .setQuota | .setZone | .setMaster | .setStale | .setCrankDelay
    | .loadSpeaker | .loadCurve | .loadDuck | .loadRamp | .loadTone | .loadVoicing => false

/-- The owner of a request: from the lane and the fields, the change of state and the answer. -/
abbrev Owner := LaneId → List Field → State → State × Answer

/-- OVERRUN: the request is dropped for want of queue room (R181 step 1). -/
def State.overrun (s : State) : State := { s with link := { s.link with overrun := true } }

/-- The outcome of a request's link checks (R181 steps 1 to 5), after the head removal. -/
inductive Admission where
  | overrun
  | refuse (r : Result)
  | accept (fs : List Field)
  deriving DecidableEq, Repr

/-- R181's checks of a request of a known kind other than NULL, in order. -/
def State.admission (s : State) (k : Kind) (w : Window) : Admission :=
  if 8 ≤ s.link.queue.length then .overrun
  else if w.payloadFault then .refuse .check
  else if !permitted k w.lane then .refuse .denied
  else
    match readFields k w.payload with
    | none => .refuse .badarg
    | some fs => .accept fs

/-- A request of a known kind other than NULL is handled: checked, handed to its owner, answered
(R181). The limit is the one that stands when the request is taken (R186). -/
def State.handle (s : State) (k : Kind) (w : Window) (owner : Owner) : State :=
  match s.admission k w with
  | .overrun => s.overrun
  | .refuse r => s.answer w.lane k.code s.link.limits[w.lane] (.plain r)
  | .accept fs =>
    let t := owner w.lane fs s
    t.1.answer w.lane k.code s.link.limits[w.lane] t.2

/-- A request in its window (R177, R181). -/
def State.request (s : State) (k : Kind) (w : Window) (owner : Owner) : State :=
  s.takeWindow (4 + w.body.length) fun s => s.handle k w owner

/-- An unknown kind: dropped without queue room, CHECK on a payload fault, UNKNOWN otherwise
(R181 steps 1 to 3). -/
def State.handleUnknown (s : State) (code : BitVec 6) (w : Window) : State :=
  if 8 ≤ s.link.queue.length then s.overrun
  else
    s.answer w.lane code s.link.limits[w.lane]
      (.plain (if w.payloadFault then .check else .unknown))

/-- A faulty header: LINK_ERR is set; the first is captured, later ones are counted up to 255 (R179). -/
def State.captureFault (s : State) (sdi : List Byte) : State :=
  match s.link.capture with
  | none => { s with link := { s.link with linkErr := true, capture := some (sdi.take 4) } }
  | some _ =>
    { s with link := { s.link with
        linkErr := true
        laterErrors := if s.link.laterErrors < 255 then s.link.laterErrors + 1 else 255 } }

/-- SET_LIMIT (R187). -/
def takeSetLimit : Owner := fun lane fs s =>
  match natField fs 0x16#8 with
  | none => (s, .plain .badarg)
  | some v =>
    ({ s with link := { s.link with limits := upd s.link.limits lane fun _ => clampNat 8 508 v } },
      .taken (decide (clampNat 8 508 v ≠ v)))

/-- The data of a GET_NOTICES answer: kinds, whether there is a latest handle, the handle or 0. -/
def NoticeSet.items (ns : NoticeSet) : List (List Byte) :=
  match ns.latest with
  | some h => [ns.kindBytes, [1#8], [byte h.slot.val, h.gen]]
  | none => [ns.kindBytes, [0#8], [0#8, 0#8]]

/-- GET_NOTICES: the asking lane's set is reported and emptied as one change (R190). -/
def takeGetNotices : Owner := fun lane _ s =>
  ({ s with link := { s.link with notices := upd s.link.notices lane fun _ => .empty } },
    { result := .done, items := s.link.notices[lane].items })

/-- The data of a GET_STATUS answer in the order of its layout (R191, section 10.9). -/
def State.statusItems (s : State) : List (List Byte) :=
  [ [s.ctl.mode.code], [s.hushByte], [flagByte s.link.overrun],
    [match s.link.capture with
      | none => 0xFF#8
      | some bs => byte bs.length],
    match s.link.capture with
      | none => [0#8, 0#8, 0#8, 0#8]
      | some bs => (bs ++ [0#8, 0#8, 0#8, 0#8]).take 4,
    [byte s.link.laterErrors], [flagByte s.prot.summary], [s.mixer.clock.code],
    [s.speed.freshness.code], le16 s.speed.reported, le16 s.speed.effective,
    s.prot.ports.toList.map fun p => p.state.code ]
  ++ s.prot.speakers.toList.map fun p => [p.byte]

/-- The link errors cleared: capture EMPTY, count 0, LINK_ERR and OVERRUN clear (R191). -/
def State.clearLinkErrors (s : State) : State :=
  { s with link := { s.link with capture := none, laterErrors := 0, linkErr := false, overrun := false } }

/-- GET_STATUS: the report, and from lane 0 the clearing of the link errors (R191). -/
def takeGetStatus : Owner := fun lane _ s =>
  (if lane = 0 then s.clearLinkErrors else s, { result := .done, items := s.statusItems })

/-- NULL: taken in its window and nothing more (R180, R181). -/
def execNull (w : Window) (s : State) : Host.Outcome State Fault Refusal :=
  .next (s.takeWindow (4 + w.body.length) fun s => s)

/-- GET_STATUS (R191). -/
def execGetStatus (w : Window) (s : State) : Host.Outcome State Fault Refusal :=
  .next (s.request .getStatus w takeGetStatus)

/-- GET_NOTICES (R190). -/
def execGetNotices (w : Window) (s : State) : Host.Outcome State Fault Refusal :=
  .next (s.request .getNotices w takeGetNotices)

/-- SET_LIMIT (R187). -/
def execSetLimit (w : Window) (s : State) : Host.Outcome State Fault Refusal :=
  .next (s.request .setLimit w takeSetLimit)

/-- PACKET_WINDOW_BEGIN: the falling edge of CS_N fixes the status byte and the head response; a window
that begins in STANDBY, during the wake-up or in reset is not taken (R164, R165, R167, R177). -/
def execPacketWindowBegin (s : State) : Host.Outcome State Fault Refusal :=
  match s.link.window with
  | .idle =>
    if s.takesPackets then
      .next { s with link := { s.link with window := .active s.windowStart.1 s.windowStart.2 } }
    else .next { s with link := { s.link with window := .ignored } }
  | .ignored | .active _ _ => .next s

end Sys2Proof.Machine
end

