-- ==== Sys2Proof/Machine/Cabin.lean ====
section
/-! DEFINITION. The Cabin Map: its requests and the geometry of placement, reach and lead zone
(01_cabin_model.md). -/
namespace Sys2Proof.Machine

/-- A complete speaker entry as sent, clamped, and whether the clamp changed a value (R4). None when
the entry is missing or a code names nothing. -/
def speakerEntryField (fs : List Field) : Option (SpeakerEntry × Bool) :=
  match fieldValue fs 0x21#8 with
  | some [present, place, side, row, trim, protMode, threshold, deglitch] => do
    let present ← boolOfCode present.toNat
    let place ← Place.ofCode place.toNat
    let side ← Side.ofCode side.toNat
    let row ← Row.ofCode row.toNat
    let protMode ← ProtMode.ofCode protMode.toNat
    some
      ({ present, place, side, row, protMode
         trim := clampTo (-96) 0 trim.toInt
         threshold := clampNat 0 96 threshold.toNat
         deglitch := clampNat 1 64 deglitch.toNat },
        decide (clampTo (-96) 0 trim.toInt ≠ trim.toInt ∨
          clampNat 0 96 threshold.toNat ≠ threshold.toNat ∨
          clampNat 1 64 deglitch.toNat ≠ deglitch.toNat))
  | _ => none

/-- The new entry stands and the speaker's overload frame counter is 0 (R4, R5). -/
def State.loadSpeaker (s : State) (sp : SpeakerId) (e : SpeakerEntry) : State :=
  { s with
    cabin := { s.cabin with speakers := upd s.cabin.speakers sp fun _ => e }
    prot := { s.prot with speakers := upd s.prot.speakers sp fun p => { p with counter := 0 } } }

/-- LOAD_SPEAKER (R4). -/
def takeLoadSpeaker : Owner := fun _ fs s =>
  if s.ctl.mode ≠ .setup then (s, .plain .mode)
  else
    match (natField fs 0x20#8).bind (finOf 24), speakerEntryField fs with
    | some sp, some (e, adjusted) => (s.loadSpeaker sp e, .taken adjusted)
    | _, _ => (s, .plain .badarg)

/-- A zone setting with the fields a SET_ZONE carries written, each clamped (R8). -/
def ZoneSetting.write (z : ZoneSetting) (level : Option Int) (mute : Option Bool)
    (bass treble : Option Int) (curve : Option (Option (Fin 4))) : ZoneSetting :=
  { level := match level with | some x => clampTo (-480) 0 x | none => z.level
    mute := mute.getD z.mute
    bass := match bass with | some x => clampTo (-12) 12 x | none => z.bass
    treble := match treble with | some x => clampTo (-12) 12 x | none => z.treble
    curve := curve.getD z.curve }

/-- SET_ZONE (R8). -/
def takeSetZone : Owner := fun _ fs s =>
  match (natField fs 0x22#8).bind (finOf 4), codeField fs 0x23#8 boolOfCode,
      codeField fs 0x26#8 curveOfCode with
  | some z, some mute, some curve =>
    if hasField fs 0x06#8 || hasField fs 0x23#8 || hasField fs 0x24#8 || hasField fs 0x25#8
        || hasField fs 0x26#8 then
      let level := intField fs 0x06#8
      let bass := intField fs 0x24#8
      let treble := intField fs 0x25#8
      ({ s with cabin := { s.cabin with
          zones := upd s.cabin.zones z fun old => old.write level mute bass treble curve } },
        .taken (clampChanges (-480) 0 level || clampChanges (-12) 12 bass
          || clampChanges (-12) 12 treble))
    else (s, .plain .badarg)
  | _, _, _ => (s, .plain .badarg)

/-- SET_MASTER (R9). -/
def takeSetMaster : Owner := fun _ fs s =>
  match codeField fs 0x23#8 boolOfCode, codeField fs 0x27#8 (finOf 4) with
  | some mute, some zone =>
    if hasField fs 0x06#8 || hasField fs 0x23#8 || hasField fs 0x27#8 then
      let level := intField fs 0x06#8
      ({ s with cabin := { s.cabin with
          masterLevel := match level with
            | some x => clampTo (-480) 0 x
            | none => s.cabin.masterLevel
          masterMute := mute.getD s.cabin.masterMute
          toneZone := zone.getD s.cabin.toneZone } },
        .taken (clampChanges (-480) 0 level))
    else (s, .plain .badarg)
  | _, _ => (s, .plain .badarg)

/-- The placement attenuation att(k): 6k steps for k = 0..19, none (silence) from 20 on (R12). -/
def placementAtt (k : Int) : Option Int := if k < 20 then some (6 * k) else none

/-- The balance attenuation, none when it is silence (R13). -/
def balanceAtt (b : Int) : Side → Option Int
  | .left => if 0 < b then placementAtt b else some 0
  | .right => if b < 0 then placementAtt (-b) else some 0
  | .centre => placementAtt (|b| / 2)

/-- The fade attenuation, none when it is silence (R14). -/
def fadeAtt (f : Int) : Row → Option Int
  | .front => if 0 < f then placementAtt f else some 0
  | .rear => if f < 0 then placementAtt (-f) else some 0
  | .middle => placementAtt (|f| / 2)

/-- A route's placement; absent is centred (R20). -/
def Route.placed (r : Route) : Placement := r.placement.getD ⟨0, 0⟩

/-- The lead zone of a route over this effective zone set, none when it has none (R16). -/
def Cabin.leadZone (c : Cabin) (cls : RouteClass) (zs : ZoneSet) : Option Zone :=
  (List.finRange 4).find? fun z =>
    zs.getLsbD z.val && (decide (cls = .alert) || !(c.zones[z]).mute)

/-- The governing zone of a cell, none when the route does not reach the speaker (R15, R16, R17). -/
def Cabin.governing (c : Cabin) (cls : RouteClass) (zs : ZoneSet) (sp : SpeakerId) : Option Zone :=
  match (c.speakers[sp]).place with
  | .zoned z => if zs.getLsbD z.val then some z else none
  | .shared => c.leadZone cls zs

/-- The zone whose bass, treble and lift set a speaker's tone targets (R139). -/
def Cabin.toneZoneOf (c : Cabin) (sp : SpeakerId) : Zone :=
  match (c.speakers[sp]).place with
  | .zoned z => z
  | .shared => c.toneZone

/-- LOAD_SPEAKER (R4, R5). -/
def execLoadSpeaker (w : Window) (s : State) : Host.Outcome State Fault Refusal :=
  .next (s.request .loadSpeaker w takeLoadSpeaker)

/-- SET_ZONE (R8). -/
def execSetZone (w : Window) (s : State) : Host.Outcome State Fault Refusal :=
  .next (s.request .setZone w takeSetZone)

/-- SET_MASTER (R9). -/
def execSetMaster (w : Window) (s : State) : Host.Outcome State Fault Refusal :=
  .next (s.request .setMaster w takeSetMaster)

end Sys2Proof.Machine
end

