-- ==== Sys2Proof/Machine/Speed.lean ====
section
/-! DEFINITION. The Speed Monitor: reports, freshness, slew, curves and their evaluation
(04_speed_dependent_level.md). -/
namespace Sys2Proof.Machine

/-- The state becomes STALE, the stale timer stops; STALE is raised in lane 0's set when the state
was FRESH (R73, R74). -/
def State.goStale (s : State) : State :=
  if s.speed.freshness = .fresh then
    ({ s with speed := { s.speed with freshness := .stale, staleTimer := none } }).raise 0 .stale none
  else { s with speed := { s.speed with staleTimer := none } }

/-- SPEED (R71, R72, R73). -/
def takeSpeed : Owner := fun _ fs s =>
  match natField fs 0x10#8 with
  | none => (s, .plain .badarg)
  | some v =>
    if v = 65535 then (if s.speed.freshness = .fresh then s.goStale else s, .plain .done)
    else
      ({ s with speed := { s.speed with
          reported := clampNat 0 1200 v
          freshness := .fresh
          staleTimer := some s.speed.staleTime } },
        .taken (decide (clampNat 0 1200 v ≠ v)))

/-- SET_STALE (R75). -/
def takeSetStale : Owner := fun _ fs s =>
  match natField fs 0x11#8 with
  | none => (s, .plain .badarg)
  | some v =>
    ({ s with speed := { s.speed with staleTime := clampNat 100 2000 v } },
      .taken (decide (clampNat 100 2000 v ≠ v)))

/-- The points of a curve as sent: three bytes each, speed and gain (section 10.9). -/
def curvePoints : List Byte → List CurvePoint
  | a :: b :: g :: rest => ⟨leNat [a, b], g.toInt⟩ :: curvePoints rest
  | _ => []

/-- The speeds are strictly increasing (R79, R80). -/
def risingSpeeds : List CurvePoint → Bool
  | a :: b :: rest => decide (a.speed < b.speed) && risingSpeeds (b :: rest)
  | _ => true

/-- LOAD_CURVE (R80). -/
def takeLoadCurve : Owner := fun _ fs s =>
  match (natField fs 0x31#8).bind (finOf 4), (fieldValue fs 0x32#8).map curvePoints with
  | some c, some [p0, p1, p2, p3, p4, p5, p6, p7] =>
    let ps := [p0, p1, p2, p3, p4, p5, p6, p7]
    if ps.all (fun p => decide (p.speed ≤ 1200)) && risingSpeeds ps then
      let fit (p : CurvePoint) : CurvePoint := { p with gain := clampTo 0 72 p.gain }
      ({ s with speed := { s.speed with
          curves := upd s.speed.curves c fun _ =>
            #v[fit p0, fit p1, fit p2, fit p3, fit p4, fit p5, fit p6, fit p7] } },
        .taken (ps.any fun p => decide (clampTo 0 72 p.gain ≠ p.gain)))
    else (s, .plain .badarg)
  | _, _ => (s, .plain .badarg)

/-- The value on the segments from point a on, at a speed of at least a's (R82). -/
def evalFrom (a : CurvePoint) (v : Nat) : List CurvePoint → Int
  | [] => a.gain
  | b :: rest =>
    if v < b.speed then
      a.gain + roundAway ((b.gain - a.gain) * ((v : Int) - a.speed)) ((b.speed : Int) - a.speed)
    else evalFrom b v rest

/-- The evaluation of a curve at an effective speed (R82). -/
def evalCurve (curve : Vector CurvePoint 8) (v : Nat) : Int :=
  if v ≤ curve[0].speed then curve[0].gain else evalFrom curve[0] v curve.toList.tail

/-- The speed term P_z of a zone, 0 for NONE (R83). -/
def State.speedTerm (s : State) (z : Zone) : Int :=
  match (s.cabin.zones[z]).curve with
  | none => 0
  | some c => evalCurve s.speed.curves[c] s.speed.effective

/-- The bass lift of a zone (R84). -/
def State.bassLift (s : State) (z : Zone) : Int := s.speedTerm z / 12

/-- The effective speed one unit nearer the reported speed (R76). -/
def slewed (effective reported : Nat) : Nat :=
  if effective < reported then effective + 1
  else if reported < effective then effective - 1
  else effective

/-- The Speed Monitor's millisecond event: the slew while FRESH, then the count of the stale timer
with its expiry (R76). -/
def State.speedMillisecond (s : State) : State :=
  let v := if s.speed.freshness = .fresh then slewed s.speed.effective s.speed.reported
    else s.speed.effective
  let s' := { s with speed := { s.speed with effective := v } }
  if expiresNext s.speed.staleTimer then s'.goStale
  else { s' with speed := { s'.speed with staleTimer := countDown s.speed.staleTimer } }

/-- SPEED (R71). -/
def execSpeed (w : Window) (s : State) : Host.Outcome State Fault Refusal :=
  .next (s.request .speed w takeSpeed)

/-- SET_STALE (R75). -/
def execSetStale (w : Window) (s : State) : Host.Outcome State Fault Refusal :=
  .next (s.request .setStale w takeSetStale)

/-- LOAD_CURVE (R80). -/
def execLoadCurve (w : Window) (s : State) : Host.Outcome State Fault Refusal :=
  .next (s.request .loadCurve w takeLoadCurve)

/-- SLEW_STEP: the Speed Monitor's millisecond event (R76, log entry 4). -/
def execSlewStep (s : State) : Host.Outcome State Fault Refusal :=
  if s.pins.rstAsserted then .next s else .next s.speedMillisecond

/-- STALE_TIMER_EXPIRY: the stale timer reaches 0 (R74). With more than 1 ms left, as after a report that
has restarted the timer, the expiry does not occur (R77, log entry 3). -/
def execStaleTimerExpiry (s : State) : Host.Outcome State Fault Refusal :=
  if s.pins.rstAsserted then .next s
  else if expiresNext s.speed.staleTimer then .next s.goStale
  else .next s

end Sys2Proof.Machine
end

