-- ==== Sys2Proof/Machine/Routes.lean ====
section
/-! DEFINITION. The Route Table: slots, the route requests, hold timers, forced closing and the pass
report (02_routes.md). -/
namespace Sys2Proof.Machine

/-- Write the route of a slot; none makes it FREE. The generation is kept (R19). -/
def State.setRoute (s : State) (i : SlotId) (r : Option Route) : State :=
  { s with table := { s.table with slots := upd s.table.slots i fun slot => { slot with route := r } } }

/-- A route enters CLOSING: cause set, hold timer discarded (R30). -/
def Route.closing (r : Route) (cause : CloseCause) : Route :=
  { r with state := .closing, cause := some cause, holdLeft := none }

/-- A slot becomes FREE: out of the opening order list, generation kept, spill flag clear (R31, R63). -/
def State.freeSlot (s : State) (i : SlotId) : State :=
  let t := s.setRoute i none
  { t with
    table := { t.table with order := s.table.order.filter fun j => decide (j ≠ i) }
    prec := { t.prec with spill := upd t.prec.spill i fun _ => false } }

/-- The end of LEAVING: the mode becomes SETUP, the HOST cause goes, MODE is raised in lane 0's set
(R171). -/
def State.endLeaving (s : State) : State :=
  ({ s with ctl := { s.ctl with mode := .setup, host := false } }).raise 0 .mode none

/-- The Route Table reports the table empty while the mode is LEAVING, and LEAVING ends (R44, R171). -/
def State.leaveIfEmpty (s : State) : State :=
  if s.ctl.mode = .leaving ∧ s.table.count = 0 then s.endLeaving else s

/-- The non-FREE routes a lane owns (R24). -/
def RouteTable.owned (t : RouteTable) (lane : LaneId) : Nat :=
  t.slots.toList.countP fun slot =>
    match slot.route with
    | some r => decide (r.owner = lane)
    | none => false

/-- The lowest-numbered FREE slot (R22). -/
def RouteTable.lowestFree (t : RouteTable) : Option SlotId :=
  (List.finRange 32).find? fun i => (t.slots[i]).route.isNone

/-- The generation an OPEN gives a slot: one more, and 1 after 255 (R22). -/
def nextGeneration (g : BitVec 8) : BitVec 8 := if g = 255#8 then 1#8 else g + 1#8

/-- The table space check refuses (R26). -/
def RouteTable.isFull (t : RouteTable) (cls : RouteClass) : Bool :=
  if cls = .alert then decide (32 ≤ t.count) else decide (30 ≤ t.count)

/-- A hold time as sent: 0 means absent (R33). -/
def holdOfField : Option Nat → Option Nat
  | some (n + 1) => some (n + 1)
  | _ => none

/-- The record an OPEN asks for, clamped, and whether the clamp changed a value; none where R33 gives
BADARG (R33, R34). -/
def openRecord (lane : LaneId) (fs : List Field) : Option (Route × Bool) := do
  let cls ← (natField fs 0x02#8).bind RouteClass.ofCode
  let source ← (natField fs 0x03#8).bind (finOf 16)
  let width ← (natField fs 0x04#8).bind Width.ofCode
  let zones ← (natField fs 0x05#8).bind zonesOfCode
  let level ← intField fs 0x06#8
  let followsSpeed ← (natField fs 0x08#8).bind boolOfCode
  let ramp ← (natField fs 0x09#8).bind (finOf 8)
  let placementArg ← placementField fs
  if width = .stereo ∧ source = 15 then none
  else
    let hold := holdOfField (natField fs 0x0A#8)
    some
      ({ owner := lane, cls, source, width, zones, followsSpeed, ramp
         level := clampTo (-480) 0 level
         placement := match placementArg with
           | .placed p _ => some p
           | _ => none
         holdTime := hold
         state := .opening
         cause := none
         holdLeft := hold },
        decide (clampTo (-480) 0 level ≠ level) ||
          match placementArg with
          | .placed _ adjusted => adjusted
          | _ => false)

/-- The slot takes the route with a raised generation, at the end of the opening order list, its
spill flag clear (R22, R23, R34). -/
def State.enterRoute (s : State) (i : SlotId) (r : Route) : State :=
  { s with
    table := { s.table with
      slots := upd s.table.slots i fun slot => ⟨nextGeneration slot.gen, some r⟩
      order := s.table.order ++ [i] }
    prec := { s.prec with spill := upd s.prec.spill i fun _ => false } }

/-- A handle as answers carry it (section 10.9). -/
def Handle.bytes (h : Handle) : List Byte := [byte h.slot.val, h.gen]

/-- OPEN (R32, R33, R34). -/
def takeOpen : Owner := fun lane fs s =>
  if s.ctl.mode ≠ .run then (s, .plain .mode)
  else
    match openRecord lane fs with
    | none => (s, .plain .badarg)
    | some (r, adjusted) =>
      if s.table.quotas[lane] ≤ s.table.owned lane then (s, .plain .quota)
      else if s.table.isFull r.cls then (s, .plain .full)
      else
        match s.table.lowestFree with
        | none => (s, .plain .full)
        | some i =>
          let t := s.enterRoute i r
          (t, { result := if adjusted then .adjusted else .done, items := [(t.handleAt i).bytes] })

/-- The fields of an ADJUST as R35's fourth check reads them; none where it gives BADARG. -/
structure AdjustArgs where
  level        : Option Int
  placement    : PlacementArg
  zones        : Option ZoneSet
  followsSpeed : Option Bool
  ramp         : Option (Fin 8)
  hold         : Option Nat
  deriving DecidableEq, Repr

def adjustArgs (fs : List Field) : Option AdjustArgs := do
  let zones ← codeField fs 0x05#8 zonesOfCode
  let placement ← placementField fs
  let followsSpeed ← codeField fs 0x08#8 boolOfCode
  let ramp ← codeField fs 0x09#8 (finOf 8)
  if hasField fs 0x05#8 || hasField fs 0x06#8 || hasField fs 0x07#8 || hasField fs 0x08#8
      || hasField fs 0x09#8 || hasField fs 0x0A#8 then
    some { level := intField fs 0x06#8, placement, zones, followsSpeed, ramp
           hold := natField fs 0x0A#8 }
  else none

/-- The record with the fields an ADJUST carries changed (R36). -/
def Route.adjusted (r : Route) (a : AdjustArgs) : Route :=
  { r with
    level := match a.level with | some x => clampTo (-480) 0 x | none => r.level
    placement := match a.placement with
      | .absent => r.placement
      | .removal => none
      | .placed p _ => some p
    zones := a.zones.getD r.zones
    followsSpeed := a.followsSpeed.getD r.followsSpeed
    ramp := a.ramp.getD r.ramp
    holdTime := match a.hold with | some n => holdOfField (some n) | none => r.holdTime
    holdLeft := match a.hold with | some n => holdOfField (some n) | none => r.holdLeft }

/-- A value of the ADJUST was clamped (R36). -/
def AdjustArgs.clamped (a : AdjustArgs) : Bool :=
  clampChanges (-480) 0 a.level ||
    match a.placement with
    | .placed _ adjusted => adjusted
    | _ => false

/-- ADJUST (R35, R36). -/
def takeAdjust : Owner := fun lane fs s =>
  match s.slotOf (handleField fs) with
  | none => (s, .plain .stale)
  | some (i, r) =>
    if lane ≠ r.owner ∧ lane ≠ 0 then (s, .plain .denied)
    else if r.state = .closing then (s, .plain .late)
    else
      match adjustArgs fs with
      | none => (s, .plain .badarg)
      | some a => (s.setRoute i (some (r.adjusted a)), .taken a.clamped)

/-- What a CLOSE with this cut flag makes of a route (R38, R39). -/
def Route.closedBy (r : Route) (cut : Bool) : Route :=
  if r.state = .closing then (if cut then { r with cause := some .cut } else r)
  else r.closing (if cut then .cut else .request)

/-- CLOSE (R38, R39). The cut flag is checked before the route's state is looked at, so a CLOSE without a
sound cut flag is answered BADARG on a CLOSING route too (DESIGN CHOICE, log entry 29). -/
def takeClose : Owner := fun lane fs s =>
  match s.slotOf (handleField fs) with
  | none => (s, .plain .stale)
  | some (i, r) =>
    if lane ≠ r.owner ∧ lane ≠ 0 then (s, .plain .denied)
    else
      match (natField fs 0x0B#8).bind boolOfCode with
      | none => (s, .plain .badarg)
      | some cut => (s.setRoute i (some (r.closedBy cut)), .plain .done)

/-- The effective zone set of the route in a slot: declared, or all four while its spill flag is set
(R63). -/
def State.effectiveZones (s : State) (i : SlotId) : ZoneSet :=
  match s.routeAt i with
  | none => 0#4
  | some r => if s.prec.spill[i] then 15#4 else r.zones

/-- The speakers at which a cell of the slot holds a mix lane (R47). -/
def State.lanesHeld (s : State) (i : SlotId) : Nat := s.grid.toList.countP fun c => c.holds i

/-- The speakers at which the slot's cell waits (R47). -/
def State.cellsWaiting (s : State) (i : SlotId) : Nat :=
  s.grid.toList.countP fun c => (c.cells[i]).waiting

/-- The data of a QUERY answer, item by item (R46, section 10.9). An absent placement is reported
with the balance and fade it acts as, 0 and 0 (DEDUCED, log entry 24). -/
def State.queryItems (s : State) (i : SlotId) (r : Route) : List (List Byte) :=
  [ (s.handleAt i).bytes, [byte r.owner.val], [byte r.cls.code], [byte r.source.val],
    [byte r.width.code], [byte r.zones.toNat], leInt16 r.level,
    [flagByte r.placement.isSome, BitVec.ofInt 8 r.placed.balance, BitVec.ofInt 8 r.placed.fade],
    [flagByte r.followsSpeed], [byte r.ramp.val], le16 (r.holdTime.getD 0), [byte r.state.code],
    [causeByte r.cause], le16 (r.holdLeft.getD 0), [byte (s.effectiveZones i).toNat],
    [flagByte s.prec.spill[i]], [byte (s.lanesHeld i)], [byte (s.cellsWaiting i)],
    [byte (s.table.order.idxOf i)] ]

/-- QUERY (R46). -/
def takeQuery : Owner := fun _ fs s =>
  match s.slotOf (handleField fs) with
  | none => (s, .plain .stale)
  | some (i, r) => (s, { result := .done, items := s.queryItems i r })

/-- One entry of a LIST answer: handle, owner, class, state (R48, section 10.9). -/
def State.listEntry (s : State) (i : SlotId) : List Byte :=
  match s.routeAt i with
  | some r => (s.handleAt i).bytes ++ [byte r.owner.val, byte r.cls.code, byte r.state.code]
  | none => []

/-- LIST (R48, R49). -/
def takeList : Owner := fun _ fs s =>
  match natField fs 0x0C#8 with
  | none => (s, .plain .badarg)
  | some offset =>
    (s, { result := .done
          items := [byte s.table.count] :: (s.table.order.drop offset).map s.listEntry })

/-- SET_QUOTA (R25). -/
def takeSetQuota : Owner := fun _ fs s =>
  if s.ctl.mode ≠ .setup then (s, .plain .mode)
  else
    match (natField fs 0x14#8).bind (finOf 4), natField fs 0x15#8 with
    | some lane, some q =>
      ({ s with table := { s.table with quotas := upd s.table.quotas lane fun _ => clampNat 0 32 q } },
        .taken (decide (clampNat 0 32 q ≠ q)))
    | _, _ => (s, .plain .badarg)

/-- Every OPENING or LIVE route enters CLOSING with cause FORCED, and FORCED is raised to its owner,
in opening order (R43). -/
def State.forceAll (s : State) : State :=
  let forced (slot : Slot) : Slot :=
    match slot.route with
    | some r => if r.state = .closing then slot else { slot with route := some (r.closing .forced) }
    | none => slot
  let stays (i : SlotId) : Bool :=
    match s.routeAt i with
    | some r => decide (r.state ≠ .closing)
    | none => false
  ({ s with table := { s.table with slots := Vector.ofFn fun i => forced s.table.slots[i] } }).raiseFor
    .forced (s.table.order.filter stays)

/-- The hold timer of a slot reaches 0 at the next count (R40). -/
def Slot.holdExpires (slot : Slot) : Bool :=
  match slot.route with
  | some r => expiresNext r.holdLeft
  | none => false

/-- One count of a slot's hold timer: a route whose hold remaining reaches 0 enters CLOSING with cause
EXPIRED (R40). -/
def Slot.countHold (slot : Slot) : Slot :=
  match slot.route with
  | some r =>
    if expiresNext r.holdLeft then { slot with route := some (r.closing .expired) }
    else { slot with route := some { r with holdLeft := countDown r.holdLeft } }
  | none => slot

/-- The Route Table's millisecond event; the notices are raised in opening order (R40). -/
def State.holdMillisecond (s : State) : State :=
  ({ s with table := { s.table with
      slots := Vector.ofFn fun i => (s.table.slots[i]).countHold } }).raiseFor .expired
    (s.table.order.filter fun i => (s.table.slots[i]).holdExpires)

/-- The hold timer of the route in a slot runs out (R40). -/
def State.expireHold (s : State) (i : SlotId) : State :=
  match s.routeAt i with
  | some r => (s.setRoute i (some (r.closing .expired))).raiseFor .expired [i]
  | none => s

/-- A handle is accepted and its route is in this state (R28). -/
def State.stillIn (s : State) (h : Handle) (st : RouteState) : Bool :=
  match s.slotOf (some (h.slot.val, h.gen)) with
  | some (_, r) => decide (r.state = st)
  | none => false

/-- OPENING routes named settled become LIVE (R28, R29). -/
def State.settle (s : State) : List Handle → State
  | [] => s
  | h :: rest =>
    if s.stillIn h .opening then
      match s.routeAt h.slot with
      | some r => State.settle (s.setRoute h.slot (some { r with state := .live })) rest
      | none => State.settle s rest
    else State.settle s rest

/-- The slots of the CLOSING routes named silent, in opening order (R28, R31). -/
def State.silentSlots (s : State) (hs : List Handle) : List SlotId :=
  s.table.order.filter fun i => hs.any fun h => decide (h.slot = i) && s.stillIn h .closing

/-- Routes are freed and FREED is raised to their owners, in this order (R31). -/
def State.freeAll (s : State) : List SlotId → State
  | [] => s
  | i :: rest => State.freeAll ((s.raiseFor .freed [i]).freeSlot i) rest

/-- The Route Table takes the report handed to it, if there is one, as one event; freeing the last
route in LEAVING ends LEAVING (R28, R29, R31, R44). -/
def State.takeReport (s : State) : State :=
  match s.table.report with
  | none => s
  | some rep =>
    let t := ({ s with table := { s.table with report := none } }).settle rep.settled
    (t.freeAll (t.silentSlots rep.silent)).leaveIfEmpty

/-- OPEN (R32). -/
def execOpenRoute (w : Window) (s : State) : Host.Outcome State Fault Refusal :=
  .next (s.request .openRoute w takeOpen)

/-- ADJUST (R35). -/
def execAdjust (w : Window) (s : State) : Host.Outcome State Fault Refusal :=
  .next (s.request .adjust w takeAdjust)

/-- CLOSE (R38). -/
def execClose (w : Window) (s : State) : Host.Outcome State Fault Refusal :=
  .next (s.request .close w takeClose)

/-- QUERY (R46). -/
def execQuery (w : Window) (s : State) : Host.Outcome State Fault Refusal :=
  .next (s.request .query w takeQuery)

/-- LIST (R48). -/
def execList (w : Window) (s : State) : Host.Outcome State Fault Refusal :=
  .next (s.request .list w takeList)

/-- SET_QUOTA (R25). -/
def execSetQuota (w : Window) (s : State) : Host.Outcome State Fault Refusal :=
  .next (s.request .setQuota w takeSetQuota)

/-- PASS_REPORT (R28). -/
def execPassReport (s : State) : Host.Outcome State Fault Refusal :=
  if s.pins.rstAsserted then .next s else .next s.takeReport

/-- ROUTE_TABLE_MILLISECOND_EVENT (R40). -/
def execRouteTableMillisecondEvent (s : State) : Host.Outcome State Fault Refusal :=
  if s.pins.rstAsserted then .next s else .next s.holdMillisecond

/-- HOLD_TIMER_EXPIRY: the hold timer of this route reaches 0 (R40). With more than 1 ms left, as after an
ADJUST that has restarted the timer, the expiry does not occur (R42, log entry 3). -/
def execHoldTimerExpiry (slot : SlotId) (s : State) : Host.Outcome State Fault Refusal :=
  if s.pins.rstAsserted then .next s
  else if (s.table.slots[slot]).holdExpires then .next (s.expireHold slot)
  else .next s

/-- END_OF_LEAVING: during LEAVING, with the table empty, LEAVING ends (R171, log entry 6). -/
def execEndOfLeaving (s : State) : Host.Outcome State Fault Refusal :=
  if s.pins.rstAsserted then .next s else .next s.leaveIfEmpty

end Sys2Proof.Machine
end

