-- ==== Sys2Proof/Machine/Precedence.lean ====
section
/-! DEFINITION. The Precedence Unit: duck matrix, duck terms, availability and ALERT spill
(03_precedence_and_ducking.md). -/
namespace Sys2Proof.Machine

/-- The attenuations of a duck row as sent, two bytes each (section 10.9). -/
def attenuations : List Byte → List Nat
  | a :: b :: rest => leNat [a, b] :: attenuations rest
  | _ => []

/-- LOAD_DUCK (R54). -/
def takeLoadDuck : Owner := fun _ fs s =>
  match (natField fs 0x02#8).bind RouteClass.ofCode, (fieldValue fs 0x30#8).map attenuations with
  | some cls, some [media, chime, guide, call, alert] =>
    ({ s with prec := { s.prec with
        duck := upd s.prec.duck cls.index fun _ =>
          #v[clampNat 0 480 media, clampNat 0 480 chime, clampNat 0 480 guide,
            clampNat 0 480 call, 0] } },
      .taken ([media, chime, guide, call].any (fun x => decide (clampNat 0 480 x ≠ x))
        || decide (alert ≠ 0)))
  | _, _ => (s, .plain .badarg)

/-- A route in OPENING or LIVE. -/
def Route.active (r : Route) : Bool := decide (r.state ≠ .closing)

/-- A speaker is available to a route with this declared zone set (R64). -/
def State.available (s : State) (zs : ZoneSet) (sp : SpeakerId) : Bool :=
  (s.cabin.speakers[sp]).present
    && (match (s.cabin.speakers[sp]).place with
        | .zoned z => zs.getLsbD z.val
        | .shared => false)
    && decide ((s.prot.speakers[sp]).state = .normal)

/-- The spill flag of a slot after the spill decision (R63, R65). -/
def State.spillAfter (s : State) (i : SlotId) : Bool :=
  match s.routeAt i with
  | some r =>
    if r.cls = .alert ∧ r.active then !(List.finRange 24).any (s.available r.zones)
    else s.prec.spill[i]
  | none => s.prec.spill[i]

/-- SPILL for a route: into the owner's set and, unless the owner is lane 0, into lane 0's (R66). -/
def State.raiseSpill (s : State) : List SlotId → State
  | [] => s
  | i :: rest =>
    match s.routeAt i with
    | some r =>
      let t := s.raise r.owner .spill (some (s.handleAt i))
      State.raiseSpill (if r.owner = 0 then t else t.raise 0 .spill (some (s.handleAt i))) rest
    | none => State.raiseSpill s rest

/-- Stage 1 of a pass: the spill decision for every ALERT route in OPENING or LIVE (R65, R66). -/
def State.spillStage (s : State) : State :=
  ({ s with prec := { s.prec with spill := Vector.ofFn s.spillAfter } }).raiseSpill
    (s.table.order.filter fun i => s.spillAfter i && !s.prec.spill[i])

/-- Route a ducks route r at a zone: R56's conditions 1 to 4. -/
def State.ducks (s : State) (a i : SlotId) (z : Zone) : Bool :=
  match s.routeAt a, s.routeAt i with
  | some ra, some ri =>
    decide (a ≠ i) && ra.active && (s.effectiveZones a).getLsbD z.val
      && (s.effectiveZones i).getLsbD z.val
      && (decide (ra.cls ≠ ri.cls) || decide (s.table.order.idxOf i < s.table.order.idxOf a))
  | _, _ => false

/-- The entry D[class(a)][class(r)] of two slots' routes (R53). -/
def State.duckEntry (s : State) (a i : SlotId) : Nat :=
  match s.routeAt a, s.routeAt i with
  | some ra, some ri => (s.prec.duck[ra.cls.index])[ri.cls.index]
  | _, _ => 0

/-- The duck term of the route in a slot at a zone: the largest entry of a route that ducks it; 0 for
an ALERT route (R56, R62). -/
def State.duckTerm (s : State) (i : SlotId) (z : Zone) : Nat :=
  match s.routeAt i with
  | some r =>
    if r.cls = .alert then 0
    else
      ((List.finRange 32).filter fun a => s.ducks a i z).foldl (fun m a => max m (s.duckEntry a i)) 0
  | none => 0

/-- LOAD_DUCK (R54). -/
def execLoadDuck (w : Window) (s : State) : Host.Outcome State Fault Refusal :=
  .next (s.request .loadDuck w takeLoadDuck)

end Sys2Proof.Machine
end

