-- ==== Sys2Proof/Machine/Protection.lean ====
section
/-! DEFINITION. The Protection Monitor: overload events, retries, escalation, clearing and thermal
warnings (08_speaker_protection.md). -/
namespace Sys2Proof.Machine

/-- Change one speaker's protection items. -/
def State.setProt (s : State) (sp : SpeakerId) (f : SpeakerProt → SpeakerProt) : State :=
  { s with prot := { s.prot with speakers := upd s.prot.speakers sp f } }

/-- The gate closes at an overload event: the frame's sample is 0, the section states are 0 and the
frame counter is 0 (R142, R149). -/
def State.closeGate (s : State) (sp : SpeakerId) : State :=
  let t := s.setProt sp fun p => { p with counter := 0 }
  { t with
    mixer := { t.mixer with
      gates := upd t.mixer.gates sp fun _ => false
      held := upd t.mixer.held sp fun _ => 0 }
    eq := { t.eq with speakers := upd t.eq.speakers sp fun e => { e with state := sectionsAtRest } } }

/-- The summary flag is set and PROTECT is raised in lane 0's set (R151, R152). -/
def State.reportTrip (s : State) : State :=
  ({ s with prot := { s.prot with summary := true } }).raise 0 .protect none

/-- The repeat count after a trip: one more inside a running escalation window, else 1 (R151). -/
def SpeakerProt.repeatsAfter (p : SpeakerProt) : Nat := if p.window.isSome then p.repeats + 1 else 1

/-- A speaker's items after an overload event under a retry mode with this retry time (R151). -/
def SpeakerProt.trip (p : SpeakerProt) (retryMs : Nat) : SpeakerProt :=
  if p.repeatsAfter < 4 then
    { p with state := .tripped, retry := some retryMs, repeats := p.repeatsAfter, window := none }
  else
    { p with state := .latched .escalated, retry := none, repeats := p.repeatsAfter, window := none }

/-- What an overload event does under the speaker's protection mode (R150, R151, R152). -/
def State.overload (s : State) (sp : SpeakerId) : State :=
  match (s.cabin.speakers[sp]).protMode with
  | .off => s
  | .report =>
    let t := s.setProt sp fun p => { p with report := true }
    { t with prot := { t.prot with summary := true } }
  | .retryFast => ((s.setProt sp fun p => p.trip 50).closeGate sp).reportTrip
  | .retrySlow => ((s.setProt sp fun p => p.trip 500).closeGate sp).reportTrip
  | .latch =>
    ((s.setProt sp fun p => { p with state := .latched .direct, window := none }).closeGate sp).reportTrip

/-- A retry timer expires: NORMAL, gate ordered open, counter 0, escalation window of 2000 ms (R153). -/
def SpeakerProt.recover (p : SpeakerProt) : SpeakerProt :=
  { p with state := .normal, counter := 0, retry := none, window := some 2000 }

/-- One count of a speaker's retry timer and escalation window; a window started at this event is not
counted (R153, R154). -/
def SpeakerProt.count (p : SpeakerProt) : SpeakerProt :=
  if expiresNext p.retry then p.recover
  else
    { p with
      retry := countDown p.retry
      window := countDown p.window
      repeats := if expiresNext p.window then 0 else p.repeats }

/-- What the line does to a port (R157). -/
def PortThermal.sample (p : PortThermal) (asserted : Bool) : PortThermal :=
  match p.state, asserted with
  | .clear, true => { state := .warned, hold := p.hold }
  | .clear, false => p
  | .warned, true => p
  | .warned, false => { state := .holding, hold := some 2000 }
  | .holding, true => { state := .warned, hold := none }
  | .holding, false => p

/-- A hold started at this event (R157). -/
def PortThermal.startsHold (p : PortThermal) (asserted : Bool) : Bool :=
  decide (p.state = .warned) && !asserted

/-- One count of a running thermal hold timer; at 0 the port is CLEAR (R157). -/
def PortThermal.count (p : PortThermal) : PortThermal :=
  if expiresNext p.hold then { state := .clear, hold := none }
  else { p with hold := countDown p.hold }

/-- A port at the millisecond event: the line, then the count (R157). -/
def PortThermal.millisecond (p : PortThermal) (asserted : Bool) : PortThermal :=
  if p.startsHold asserted then p.sample asserted else (p.sample asserted).count

/-- The port is in the thermal state (R146). -/
def PortThermal.hot (p : PortThermal) : Bool := decide (p.state ≠ .clear)

/-- The output port of a speaker, port n/8 (R1). -/
def portOf (sp : SpeakerId) : PortId := ⟨sp.val / 8, by omega⟩

/-- The Protection Monitor's millisecond event (R153, R154, R157). -/
def State.protMillisecond (s : State) (awarn : Vector Bool 3) : State :=
  { s with
    pins := { s.pins with awarn := awarn }
    prot := { s.prot with
      ports := Vector.ofFn fun i => (s.prot.ports[i]).millisecond awarn[i]
      speakers := Vector.ofFn fun sp => (s.prot.speakers[sp]).count }
    mixer := { s.mixer with
      gates := Vector.ofFn fun sp =>
        if expiresNext (s.prot.speakers[sp]).retry then true else s.mixer.gates[sp] } }

/-- Every speaker's protection is cleared; ports are left as they are (R155, R156). -/
def State.clearProtection (s : State) : State :=
  { s with
    prot := { s.prot with speakers := Vector.replicate 24 .clear, summary := false }
    mixer := { s.mixer with gates := Vector.replicate 24 true } }

/-- CLEAR_PROTECT (R155). -/
def takeClearProtect : Owner := fun _ _ s => (s.clearProtection, .plain .done)

/-- CLEAR_PROTECT (R155). -/
def execClearProtect (w : Window) (s : State) : Host.Outcome State Fault Refusal :=
  .next (s.request .clearProtect w takeClearProtect)

/-- OVERLOAD_EVENT: the overload event of a speaker whose gate is open and whose protection mode is not
OFF, its frame counter set to 0 (R148, log entries 5 and 17). In CLOCK_LOST there is no frame event, so
no overload event occurs and no counter moves (R129, R149). -/
def execOverloadEvent (speaker : SpeakerId) (s : State) : Host.Outcome State Fault Refusal :=
  if s.pins.rstAsserted then .next s
  else if s.ctl.mode = .standby ∨ s.mixer.clock = .lost then .next s
  else if s.mixer.gates[speaker] = true ∧ (s.cabin.speakers[speaker]).protMode ≠ .off then
    .next ((s.setProt speaker fun p => { p with counter := 0 }).overload speaker)
  else .next s

/-- RETRY_TIMER_EXPIRY: a running retry timer runs out (R153, log entry 3). -/
def execRetryTimerExpiry (speaker : SpeakerId) (s : State) : Host.Outcome State Fault Refusal :=
  if s.pins.rstAsserted then .next s
  else if (s.prot.speakers[speaker]).retry.isSome then
    let t := s.setProt speaker SpeakerProt.recover
    .next { t with mixer := { t.mixer with gates := upd t.mixer.gates speaker fun _ => true } }
  else .next s

/-- ESCALATION_WINDOW_EXPIRY: a running escalation window runs out (R154, log entry 3). -/
def execEscalationWindowExpiry (speaker : SpeakerId) (s : State) : Host.Outcome State Fault Refusal :=
  if s.pins.rstAsserted then .next s
  else if (s.prot.speakers[speaker]).window.isSome then
    .next (s.setProt speaker fun p => { p with window := none, repeats := 0 })
  else .next s

/-- AWARN_SAMPLE: the Protection Monitor's millisecond event (R157, log entry 4). -/
def execAwarnSample (awarn : Vector Bool 3) (s : State) : Host.Outcome State Fault Refusal :=
  if s.pins.rstAsserted then .next s else .next (s.protMillisecond awarn)

/-- THERMAL_HOLD_EXPIRY: a running thermal hold timer runs out (R157, log entry 3). -/
def execThermalHoldExpiry (port : PortId) (s : State) : Host.Outcome State Fault Refusal :=
  if s.pins.rstAsserted then .next s
  else if (s.prot.ports[port]).hold.isSome then
    .next { s with prot := { s.prot with
      ports := upd s.prot.ports port fun _ => { state := .clear, hold := none } } }
  else .next s

end Sys2Proof.Machine
end

