-- ==== Sys2Proof/Machine/Signal.lean ====
section
/-! DEFINITION. The signal path: frames and their clock, glides, the mix, the sections, overload
detection, the tone table and the tone walk (07_signal_path_and_equalisation.md, 08 sections 8.2). -/
namespace Sys2Proof.Machine

/-- The gain in use at frame j of a glide (R133). -/
def MixLane.gainAt (l : MixLane) (j : Nat) : Int :=
  l.start + roundAway ((lin l.goal - l.start) * j) 48

/-- A frame event moves a lane's glide by one frame, until 48 are counted (R133). -/
def MixLane.advance (l : MixLane) : MixLane :=
  if l.frames < 48 then { l with gain := l.gainAt (l.frames + 1), frames := l.frames + 1 } else l

/-- At the return of frames a lane's gain is the linear gain of its end value, its glide ended
(R130). -/
def MixLane.settle (l : MixLane) : MixLane := { l with gain := lin l.goal, frames := 48 }

/-- A pass hands a lane its gain and holder: a glide begins while RUNNING; in CLOCK_LOST the two are
recorded and nothing moves (R109, R129, R133). -/
def MixLane.handed (l : MixLane) (clock : ClockState) (goal : Int) (holder : Option SlotId) : MixLane :=
  match clock with
  | .running => { holder, gain := l.gain, start := l.gain, goal, frames := 0 }
  | .lost => { l with holder, goal }

/-- The signed sample of an input slot (R126). -/
def inputSample (samples : Vector Sample 16) (n : Fin 16) : Int := (samples[n]).toInt

/-- The feed of a cell: the route's source and width, the speaker's side (R18). -/
def feed (samples : Vector Sample 16) (r : Route) (side : Side) : Int :=
  match r.width with
  | .mono => inputSample samples r.source
  | .stereo =>
    match side with
    | .left => inputSample samples r.source
    | .right => inputSample samples (r.source + 1)
    | .centre => (inputSample samples r.source + inputSample samples (r.source + 1)) / 2

/-- A lane's part of a speaker's sum (R132, R135). -/
def State.lanePart (s : State) (samples : Vector Sample 16) (sp : SpeakerId) (l : MixLane) : Int :=
  match l.holder with
  | none => 0
  | some i =>
    match s.routeAt i with
    | some r => feed samples r (s.cabin.speakers[sp]).side * l.gain
    | none => 0

/-- A speaker's sum over its lanes, exact (R135). -/
def State.mixSum (s : State) (samples : Vector Sample 16) (sp : SpeakerId) : Int :=
  ((s.mixer.lanes[sp]).toList.map (s.lanePart samples sp)).sum

/-- The mixed sample y0 of a sum (R135). -/
def mixOut (acc : Int) : Int := sat24 ((acc + 4194304) / 8388608)

/-- The output of a section for an input (R136). -/
def sectionOut (c : Coeffs) (st : SectionState) (x : Int) : Int :=
  sat24 ((c.b0 * x + c.b1 * st.x1 + c.b2 * st.x2 - c.a1 * st.y1 - c.a2 * st.y2 + 2097152) / 4194304)

/-- A section's state after input x and output y (R136). -/
def SectionState.shift (st : SectionState) (x y : Int) : SectionState :=
  { x1 := x, x2 := st.x1, y1 := y, y2 := st.y1 }

/-- A speaker's six sections in their order on y0: the output and the new states (R136). -/
def SpeakerEq.run (e : SpeakerEq) (y0 : Int) : Int × Vector SectionState 6 :=
  let v0 := sectionOut e.voicing[0] e.state[0] y0
  let v1 := sectionOut e.voicing[1] e.state[1] v0
  let v2 := sectionOut e.voicing[2] e.state[2] v1
  let v3 := sectionOut e.voicing[3] e.state[3] v2
  let lo := sectionOut e.low e.state[4] v3
  let hi := sectionOut e.high e.state[5] lo
  (hi, #v[(e.state[0]).shift y0 v0, (e.state[1]).shift v0 v1, (e.state[2]).shift v1 v2,
    (e.state[3]).shift v2 v3, (e.state[4]).shift v3 lo, (e.state[5]).shift lo hi])

/-- The frames return after CLOCK_LOST: section states 0, gains at their end values, overload frame
counters 0, RUNNING, and CLOCK to lane 0 outside STANDBY (R130, R143, R144, R149). -/
def State.returnOfFrames (s : State) : State :=
  let t := { s with
    mixer := { s.mixer with
      clock := .running
      lanes := Vector.ofFn fun sp => Vector.ofFn fun k => ((s.mixer.lanes[sp])[k]).settle }
    eq := { s.eq with speakers := Vector.ofFn fun sp =>
      { s.eq.speakers[sp] with state := sectionsAtRest } }
    prot := { s.prot with speakers := Vector.ofFn fun sp =>
      { s.prot.speakers[sp] with counter := 0 } } }
  if s.ctl.mode = .standby then t else t.raise 0 .clock none

/-- Every lane's glide moves by one frame (R133). -/
def State.advanceGlides (s : State) : State :=
  { s with mixer := { s.mixer with
      lanes := Vector.ofFn fun sp => Vector.ofFn fun k => ((s.mixer.lanes[sp])[k]).advance } }

/-- What a frame makes of a speaker: its output sample and section states (R135, R136); sample 0 and
states 0 behind a closed gate (R142). -/
def State.speakerFrame (s : State) (samples : Vector Sample 16) (sp : SpeakerId) :
    Int × Vector SectionState 6 :=
  if s.mixer.gates[sp] then (s.eq.speakers[sp]).run (mixOut (s.mixSum samples sp))
  else (0, sectionsAtRest)

/-- Every speaker's output of the frame is formed and held for transmission (R127, R135, R136). -/
def State.produceFrame (s : State) (samples : Vector Sample 16) : State :=
  { s with
    mixer := { s.mixer with held := Vector.ofFn fun sp => (s.speakerFrame samples sp).1 }
    eq := { s.eq with speakers := Vector.ofFn fun sp =>
      { s.eq.speakers[sp] with state := (s.speakerFrame samples sp).2 } } }

/-- The threshold amplitude of a speaker (R147). -/
def thresholdAmplitude (thr : Nat) : Int := 8388607 * lin (-(thr : Int)) / 8388608

/-- The overload frame counter after rising or falling to 0 at a sample y (R148). -/
def SpeakerProt.counted (p : SpeakerProt) (e : SpeakerEntry) (y : Int) : Nat :=
  if thresholdAmplitude e.threshold ≤ |y| then p.counter + 1 else 0

/-- The detector is handed the speaker's sample: gate open, protection mode not OFF (R148). -/
def State.detects (s : State) (sp : SpeakerId) : Bool :=
  s.mixer.gates[sp] && decide ((s.cabin.speakers[sp]).protMode ≠ .off)

/-- The frame just produced makes an overload event at the speaker (R148). -/
def State.overloads (s : State) (sp : SpeakerId) : Bool :=
  s.detects sp &&
    decide ((s.prot.speakers[sp]).counted (s.cabin.speakers[sp]) s.mixer.held[sp]
      = (s.cabin.speakers[sp]).deglitch)

/-- Every detector counts the frame just produced; a counter that makes an overload event is set to 0
(R148). -/
def State.countOverloads (s : State) : State :=
  { s with prot := { s.prot with
      speakers := Vector.ofFn fun sp =>
        if s.detects sp then
          { s.prot.speakers[sp] with
            counter := if s.overloads sp then 0
              else (s.prot.speakers[sp]).counted (s.cabin.speakers[sp]) s.mixer.held[sp] }
        else s.prot.speakers[sp] } }

/-- The overload events of a frame act (R148, R150 to R152). -/
def State.overloadAll (s : State) : List SpeakerId → State
  | [] => s
  | sp :: rest => State.overloadAll (s.overload sp) rest

/-- The frame event (R126): frames return where they were lost, glides move, the speakers' outputs are
formed, the overload detectors count and act. -/
def State.frame (s : State) (samples : Vector Sample 16) : State :=
  let back := if s.mixer.clock = .lost then s.returnOfFrames else s
  let made := back.advanceGlides.produceFrame samples
  let done := made.countOverloads.overloadAll ((List.finRange 24).filter made.overloads)
  { done with mixer := { done.mixer with inFrame := false } }

/-- An FSYNC rising edge: a frame begins, the 250 µs measurement restarts, the held samples are
transmitted (R126, R127, R128). -/
def State.fsyncEdge (s : State) : State :=
  { s with mixer := { s.mixer with inFrame := true, fsyncLeft := 250, sending := s.mixer.held } }

/-- The 32 bits a speaker's output slot carries in the frame being transmitted (R127). -/
def State.outputSlot (s : State) (sp : SpeakerId) : BitVec 32 :=
  BitVec.ofInt 24 s.mixer.sending[sp] ++ 0#8

/-- A tone index as an entry of a tone table kind (R138). -/
def toneEntry (i : Int) : Option (Fin 25) :=
  if -12 ≤ i ∧ i ≤ 12 then finOf 25 (i + 12).toNat else none

/-- The tone table entry at an applied index (R140); an index outside -12..12, which no speaker has,
reads the nearer end. -/
def toneAt (table : Vector Coeffs 25) (i : Int) : Coeffs :=
  table[(⟨(clampTo 0 24 (i + 12)).toNat, by unfold clampTo; split_ifs <;> omega⟩ : Fin 25)]

/-- LOAD_TONE (R138). -/
def takeLoadTone : Owner := fun _ fs s =>
  if s.ctl.mode ≠ .setup then (s, .plain .mode)
  else
    match natField fs 0x35#8, (intField fs 0x36#8).bind toneEntry, fieldValue fs 0x37#8 with
    | some 0, some i, some bs =>
      ({ s with eq := { s.eq with toneLow := upd s.eq.toneLow i fun _ => coeffsOf bs } }, .plain .done)
    | some 1, some i, some bs =>
      ({ s with eq := { s.eq with toneHigh := upd s.eq.toneHigh i fun _ => coeffsOf bs } }, .plain .done)
    | _, _, _ => (s, .plain .badarg)

/-- LOAD_VOICING (R137). -/
def takeLoadVoicing : Owner := fun _ fs s =>
  if s.ctl.mode ≠ .setup then (s, .plain .mode)
  else
    match (natField fs 0x20#8).bind (finOf 24), fieldValue fs 0x38#8 with
    | some sp, some bs =>
      ({ s with eq := { s.eq with speakers := upd s.eq.speakers sp fun e =>
          { e with voicing :=
              #v[coeffsOf bs, coeffsOf (bs.drop 15), coeffsOf (bs.drop 30), coeffsOf (bs.drop 45)] } } },
        .plain .done)
    | _, _ => (s, .plain .badarg)

/-- The low shelf's target at a speaker: bass plus lift, clamped (R139). -/
def State.lowTarget (s : State) (sp : SpeakerId) : Int :=
  let z := s.cabin.toneZoneOf sp
  clampTo (-12) 12 ((s.cabin.zones[z]).bass + s.bassLift z)

/-- The high shelf's target at a speaker: treble (R139). -/
def State.highTarget (s : State) (sp : SpeakerId) : Int :=
  (s.cabin.zones[s.cabin.toneZoneOf sp]).treble

/-- One step of an applied index toward its target (R140). -/
def stepToward (i target : Int) : Int := if i < target then i + 1 else if target < i then i - 1 else i

/-- A speaker's shelves take these indices and the coefficients of the tone table there (R140, R144). -/
def SpeakerEq.atIndices (e : SpeakerEq) (toneLow toneHigh : Vector Coeffs 25) (lo hi : Int) :
    SpeakerEq :=
  { e with lowIndex := lo, highIndex := hi, low := toneAt toneLow lo, high := toneAt toneHigh hi }

/-- The tone walk expiry of a speaker whose timer runs (R140); the timer restarts with 16 ms. -/
def State.walked (s : State) (sp : SpeakerId) : SpeakerEq :=
  let e := s.eq.speakers[sp]
  if e.walk.isSome then
    { e.atIndices s.eq.toneLow s.eq.toneHigh (stepToward e.lowIndex (s.lowTarget sp))
        (stepToward e.highIndex (s.highTarget sp)) with walk := some 16 }
  else e

/-- LOAD_TONE (R138). -/
def execLoadTone (w : Window) (s : State) : Host.Outcome State Fault Refusal :=
  .next (s.request .loadTone w takeLoadTone)

/-- LOAD_VOICING (R137). -/
def execLoadVoicing (w : Window) (s : State) : Host.Outcome State Fault Refusal :=
  .next (s.request .loadVoicing w takeLoadVoicing)

/-- TONE_WALK_EXPIRY: all running tone walk timers expire at the same moment (R140, R141). -/
def execToneWalkExpiry (s : State) : Host.Outcome State Fault Refusal :=
  if s.pins.rstAsserted then .next s
  else .next { s with eq := { s.eq with speakers := Vector.ofFn s.walked } }

/-- FRAME_EVENT (R126). -/
def execFrameEvent (samples : Vector Sample 16) (s : State) : Host.Outcome State Fault Refusal :=
  if s.pins.rstAsserted then .next s else .next (s.frame samples)

/-- FRAME_DISCARD: the frame in progress is dropped with its partial samples, and the early FSYNC edge
begins a new frame (R126, R127, R128). -/
def execFrameDiscard (s : State) : Host.Outcome State Fault Refusal :=
  if s.pins.rstAsserted then .next s else .next s.fsyncEdge

/-- FRAME_BEGIN (R126, R127, R128). -/
def execFrameBegin (s : State) : Host.Outcome State Fault Refusal :=
  if s.pins.rstAsserted then .next s else .next s.fsyncEdge

/-- CLOCK_LOSS: the Mixer enters CLOCK_LOST; held samples 0, CLOCK to lane 0 outside STANDBY (R128,
R144). In CLOCK_LOST there is no second entry. -/
def execClockLoss (s : State) : Host.Outcome State Fault Refusal :=
  if s.pins.rstAsserted then .next s
  else if s.mixer.clock = .lost then .next s
  else
    let t := { s with mixer := { s.mixer with
      clock := .lost, fsyncLeft := 0, held := Vector.replicate 24 0 } }
    if s.ctl.mode = .standby then .next t else .next (t.raise 0 .clock none)

end Sys2Proof.Machine
end

