-- ==== Sys2Proof/Machine/Gain.lean ====
section
/-! DEFINITION. The Gain Resolver: targets, direct silencing, ramp profiles and the ramp step
(05_gain_resolution.md). -/
namespace Sys2Proof.Machine

/-- LOAD_RAMP (R100). -/
def takeLoadRamp : Owner := fun _ fs s =>
  match (natField fs 0x09#8).bind (finOf 8), natField fs 0x33#8, natField fs 0x34#8 with
  | some p, some rise, some fall =>
    ({ s with ramps := upd s.ramps p fun _ =>
        ⟨(clampNat 1 480 rise : Nat), (clampNat 1 480 fall : Nat)⟩ },
      .taken (decide (clampNat 1 480 rise ≠ rise) || decide (clampNat 1 480 fall ≠ fall)))
  | _, _, _ => (s, .plain .badarg)

/-- A silence condition of R93 other than reach, placement and duck holds for a cell of route r at
speaker sp whose governing zone is z. -/
def State.silencedCell (s : State) (r : Route) (sp : SpeakerId) (z : Zone) : Bool :=
  decide (r.state = .closing) || !(s.cabin.speakers[sp]).present
    || decide ((s.prot.speakers[sp]).state ≠ .normal) || s.hushed
    || (decide (r.cls ≠ .alert) && (s.cabin.masterMute || (s.cabin.zones[z]).mute))

/-- The sum S of a cell, from its two placement attenuations (R62, R94). -/
def State.gainSum (s : State) (i : SlotId) (r : Route) (sp : SpeakerId) (z : Zone)
    (bal fade : Int) : Int :=
  r.level
    + (if r.cls = .alert then 0 else s.cabin.masterLevel)
    + (if r.cls = .alert then 0 else (s.cabin.zones[z]).level)
    - bal - fade
    + (if r.followsSpeed then s.speedTerm z else 0)
    - s.duckTerm i z
    + (s.cabin.speakers[sp]).trim
    - (if (s.prot.ports[portOf sp]).hot then 24 else 0)

/-- The target of the cell of slot i's route r at speaker sp (R93, R94, R95). -/
def State.targetOf (s : State) (i : SlotId) (r : Route) (sp : SpeakerId) : Int :=
  match s.cabin.governing r.cls (s.effectiveZones i) sp with
  | none => -480
  | some z =>
    if s.silencedCell r sp z then -480
    else
      match balanceAtt r.placed.balance (s.cabin.speakers[sp]).side,
          fadeAtt r.placed.fade (s.cabin.speakers[sp]).row with
      | some bal, some fade =>
        if s.duckTerm i z = 480 then -480
        else clampTo (-480) 48 (s.gainSum i r sp z bal fade)
      | _, _ => -480

/-- Stage 2 at one cell: the cells of a tripped or latched speaker are silenced directly (R97); the
cells of a non-FREE route take their target (R92); others keep theirs. -/
def State.targetCell (s : State) (sp : SpeakerId) (i : SlotId) (c : Cell) : Cell :=
  if (s.prot.speakers[sp]).state ≠ .normal then { c with target := -480, applied := -480 }
  else
    match s.routeAt i with
    | some r => { c with target := s.targetOf i r sp }
    | none => c

/-- Stage 2 at one speaker (R90 to R98). -/
def State.targetColumn (s : State) (sp : SpeakerId) (col : Column) : Column :=
  { col with cells := Vector.ofFn fun i => s.targetCell sp i col.cells[i] }

/-- One ramp step of the cell of route r, which holds a lane or not (R102). -/
def rampCell (ramps : Vector RampProfile 8) (r : Route) (holds : Bool) (c : Cell) : Cell :=
  if !holds then { c with applied := -480 }
  else if c.yielding then { c with applied := max (c.applied - 48) (-480) }
  else if r.state = .closing ∧ r.cause = some .cut then
    { c with applied := max (c.applied - 48) (-480) }
  else if c.applied < c.target then
    { c with applied := min (c.applied + (ramps[r.ramp]).rise) c.target }
  else if c.target < c.applied then
    { c with applied := max (c.applied - (ramps[r.ramp]).fall) c.target }
  else c

/-- Stage 4 at one speaker: the cells of the non-FREE routes (R102). -/
def State.rampColumn (s : State) (col : Column) : Column :=
  { col with cells := Vector.ofFn fun i =>
      match s.routeAt i with
      | some r => rampCell s.ramps r (col.holds i) col.cells[i]
      | none => col.cells[i] }

/-- Every lane-holding cell of the slot has applied gain equal to target (R29, R106). A yielding cell is
held to the same test: where its fall of 48 steps lands on its target it counts as arrived, though R105
says that it differs from its target in every pass (DESIGN CHOICE, log entry 30). -/
def State.isSettled (s : State) (i : SlotId) : Bool :=
  s.grid.toList.all fun col => !col.holds i || decide ((col.cells[i]).applied = (col.cells[i]).target)

/-- Every cell of the slot has applied gain -480 and holds no lane (R106). -/
def State.isSilent (s : State) (i : SlotId) : Bool :=
  s.grid.toList.all fun col => !col.holds i && decide ((col.cells[i]).applied = -480)

/-- The slot's route is in this state. -/
def State.routeIn (s : State) (i : SlotId) (st : RouteState) : Bool :=
  match s.routeAt i with
  | some r => decide (r.state = st)
  | none => false

/-- The report of a pass, from the state its ramp has left (R106, R107). -/
def State.passReport (s : State) : PassReport :=
  { settled := ((List.finRange 32).filter fun i => s.routeIn i .opening && s.isSettled i).map s.handleAt
    silent := ((List.finRange 32).filter fun i => s.routeIn i .closing && s.isSilent i).map s.handleAt }

/-- LOAD_RAMP (R100). -/
def execLoadRamp (w : Window) (s : State) : Host.Outcome State Fault Refusal :=
  .next (s.request .loadRamp w takeLoadRamp)

end Sys2Proof.Machine
end

