-- ==== Sys2Proof/Machine/Lanes.lean ====
section
/-! DEFINITION. The Lane Arbiter: need, rank, and the release, grant, yield and waiting steps at one
speaker (06_mix_lanes.md). -/
namespace Sys2Proof.Machine

/-- The cell needs a lane at this pass (R113). -/
def Cell.needs (c : Cell) : Bool := decide (-480 < c.target)

/-- The non-FREE routes of one class, oldest first. -/
def RouteTable.ofClass (t : RouteTable) (cls : RouteClass) : List SlotId :=
  t.order.filter fun i =>
    match (t.slots[i]).route with
    | some r => decide (r.cls = cls)
    | none => false

/-- The non-FREE routes in rank order, highest first: by class, then by age (R114). -/
def RouteTable.ranked (t : RouteTable) : List SlotId :=
  t.ofClass .alert ++ t.ofClass .call ++ t.ofClass .guide ++ t.ofClass .chime ++ t.ofClass .media

/-- A holder releases its lane: silent, and its target silent or itself yielding (R116). -/
def Cell.releases (c : Cell) : Bool :=
  decide (c.applied = -480) && (decide (c.target = -480) || c.yielding)

/-- The release step (R116). -/
def Column.release (col : Column) : Column :=
  { cells := Vector.ofFn fun i =>
      if col.holds i && (col.cells[i]).releases then { col.cells[i] with yielding := false }
      else col.cells[i]
    lanes := Vector.ofFn fun k =>
      match col.lanes[k] with
      | some i => if (col.cells[i]).releases then none else some i
      | none => none }

/-- A candidate: it needs a lane and holds none (R113). -/
def Column.candidate (col : Column) (i : SlotId) : Bool := (col.cells[i]).needs && !col.holds i

/-- The lowest-numbered free lane (R117). -/
def Column.freeLane (col : Column) : Option MixId :=
  (List.finRange 8).find? fun k => (col.lanes[k]).isNone

/-- The grant step over the routes in rank order (R117). -/
def Column.grant (col : Column) : List SlotId → Column
  | [] => col
  | i :: rest =>
    if col.candidate i then
      match col.freeLane with
      | some k => Column.grant { col with lanes := upd col.lanes k fun _ => some i } rest
      | none => Column.grant col rest
    else Column.grant col rest

/-- A holder marked yielding (R118). -/
def Column.yieldingHolder (col : Column) (i : SlotId) : Bool := col.holds i && (col.cells[i]).yielding

/-- The count Y of holders marked yielding (R118). -/
def Column.yieldCount (col : Column) (ranked : List SlotId) : Nat := ranked.countP col.yieldingHolder

/-- The lowest-ranked holder not marked yielding (R118). -/
def Column.lowestUnmarked (col : Column) (ranked : List SlotId) : Option SlotId :=
  (ranked.filter fun i => col.holds i && !(col.cells[i]).yielding).getLast?

/-- Mark a cell yielding. -/
def Column.markYielding (col : Column) (i : SlotId) : Column :=
  { col with cells := upd col.cells i fun c => { c with yielding := true } }

/-- The yield step for the uncovered candidates in rank order: the column and the holders marked, in
the order of marking (R118). -/
def Column.yieldFor (ranked : List SlotId) (col : Column) : List SlotId → Column × List SlotId
  | [] => (col, [])
  | cand :: rest =>
    match col.lowestUnmarked ranked with
    | none => (col, [])
    | some holder =>
      if ranked.idxOf cand < ranked.idxOf holder then
        let t := Column.yieldFor ranked (col.markYielding holder) rest
        (t.1, holder :: t.2)
      else (col, [])

/-- The yield step: the Y highest-ranked leftover candidates are covered (R118). -/
def Column.yield (col : Column) (ranked : List SlotId) : Column × List SlotId :=
  Column.yieldFor ranked col ((ranked.filter col.candidate).drop (col.yieldCount ranked))

/-- The waiting marks: set on every cell that needs a lane and holds none, cleared on others (R119). -/
def Column.markWaiting (col : Column) : Column :=
  { col with cells := Vector.ofFn fun i => { col.cells[i] with waiting := col.candidate i } }

/-- The outcome of a speaker's arbitration: the column, the holders marked yielding in order, and the
routes whose waiting mark changed from clear to set, in rank order (R115, R120). -/
structure Arbitrated where
  column  : Column
  marked  : List SlotId
  waiting : List SlotId
  deriving DecidableEq, Repr

/-- Release, grant, yield and waiting marks at a present speaker (R115). -/
def Column.arbitrate (col : Column) (ranked : List SlotId) : Arbitrated :=
  let y := (col.release.grant ranked).yield ranked
  { column := y.1.markWaiting
    marked := y.2
    waiting := ranked.filter fun i => y.1.candidate i && !(col.cells[i]).waiting }

/-- Stage 3 at one speaker; an absent speaker is not arbitrated (R122). -/
def State.arbitrated (s : State) (sp : SpeakerId) : Arbitrated :=
  if (s.cabin.speakers[sp]).present then (s.grid[sp]).arbitrate s.table.ranked
  else { column := s.grid[sp], marked := [], waiting := [] }

/-- CROWDED for the routes one lane owns among these newly waiting ones. R120 gives their order no
rule: with two or more, which is raised last is a free value (log entry 9). -/
def State.crowdLane (s : State) (waiting : List SlotId) (lane : LaneId) : State :=
  let mine := waiting.filter fun i =>
    match s.routeAt i with
    | some r => decide (r.owner = lane)
    | none => false
  match mine with
  | [] => s
  | [i] => s.raise lane .crowded (some (s.handleAt i))
  | i :: rest =>
    let last := (i :: rest)[Config.crowdedPick s.free % (rest.length + 1)]?.getD i
    { s.raise lane .crowded (some (s.handleAt last)) with free := s.free + 1 }

/-- CROWDED at one speaker: the marks of the yield step, then the newly set waiting marks (R120). -/
def State.crowdSpeaker (s : State) (a : Arbitrated) : State :=
  [0, 1, 2, 3].foldl (fun t lane => State.crowdLane t a.waiting lane) (s.raiseFor .crowded a.marked)

/-- CROWDED over the speakers in order of number (R120). -/
def State.crowdAll (s : State) : List Arbitrated → State
  | [] => s
  | a :: rest => State.crowdAll (s.crowdSpeaker a) rest

/-- Stage 3 of a pass: arbitration at every present speaker, with its notices (R115, R120). -/
def State.arbitrationStage (s : State) : State :=
  ({ s with grid := Vector.ofFn fun sp => (s.arbitrated sp).column }).crowdAll
    ((List.finRange 24).map s.arbitrated)

end Sys2Proof.Machine
end

