-- ==== Sys2Proof/Machine/Pass.lean ====
section
/-! DEFINITION. The pass: the six stages of R89 over every cell. -/
namespace Sys2Proof.Machine

/-- Stage 2: targets and direct silencing at every speaker (R90 to R98). -/
def State.targetStage (s : State) : State :=
  { s with grid := Vector.ofFn fun sp => s.targetColumn sp s.grid[sp] }

/-- Stage 4: one ramp step of every cell of the non-FREE routes (R102). -/
def State.rampStage (s : State) : State :=
  { s with grid := Vector.ofFn fun sp => s.rampColumn s.grid[sp] }

/-- Stage 5: the report is handed to the Route Table (R107). -/
def State.reportStage (s : State) : State :=
  { s with table := { s.table with report := some s.passReport } }

/-- The gain handed for a lane: its holder's applied gain, -480 for a free lane (R109). -/
def Column.handedGain (col : Column) (k : MixId) : Int :=
  match col.lanes[k] with
  | some i => (col.cells[i]).applied
  | none => -480

/-- Stage 6: every lane is handed its gain and holder (R109, R129, R133). -/
def State.glideStage (s : State) : State :=
  { s with mixer := { s.mixer with
      lanes := Vector.ofFn fun sp => Vector.ofFn fun k =>
        ((s.mixer.lanes[sp])[k]).handed s.mixer.clock ((s.grid[sp]).handedGain k) (s.grid[sp]).lanes[k] } }

/-- The six stages of a pass in their order (R89). -/
def State.stages (s : State) : State :=
  s.spillStage.targetStage.arbitrationStage.rampStage.reportStage.glideStage

/-- PASS: the pass is taken whole (R88). A report of the pass before that the Route Table has not taken
is taken first, since every stage of the next pass sees its changes (R89, R107, log entry 7). -/
def execPass (s : State) : Host.Outcome State Fault Refusal :=
  if s.pins.rstAsserted then .next s else .next s.takeReport.stages

end Sys2Proof.Machine
end

