-- ==== Sys2Proof/Machine/Modes.lean ====
section
/-! DEFINITION. The Mode Controller: power-on, RST_N, WAKE, STANDBY and the wake-up, SET_MODE, hush and
crank (09_operating_modes.md). -/
namespace Sys2Proof.Machine

/-- Every block takes its power-on values with the lines as sampled (R167). The queue of commands and
the count of free values are the model's own and stay. -/
def State.restart (s : State) (lines : Lines) : State :=
  let t := State.powerOn lines
  { t with pending := s.pending, free := s.free }

/-- A chip-select window in progress is abandoned (R164). -/
def ChipSelect.abandon : ChipSelect → ChipSelect
  | .idle => .idle
  | .ignored => .ignored
  | .active _ _ => .ignored

/-- Every non-FREE route becomes FREE at once; generations and quotas are kept (R45). -/
def RouteTable.freeEvery (t : RouteTable) : RouteTable :=
  { t with slots := Vector.ofFn fun i => { t.slots[i] with route := none }, order := [] }

/-- The Speed Monitor at entry to STANDBY (R78). -/
def SpeedMonitor.standby (m : SpeedMonitor) : SpeedMonitor :=
  { m with reported := 0, effective := 0, freshness := .stale, staleTimer := none }

/-- The Mixer at entry to STANDBY: lanes emptied, samples 0, gates open; the clock state is kept
(R144). -/
def Mixer.standby (m : Mixer) : Mixer :=
  { m with lanes := mixLanesSilent, held := Vector.replicate 24 0, sending := Vector.replicate 24 0
           gates := Vector.replicate 24 true }

/-- A speaker's sections at entry to STANDBY (R144). -/
def Equaliser.standby (e : Equaliser) : Equaliser :=
  { e with speakers := Vector.ofFn fun sp =>
      { (e.speakers[sp]).atIndices e.toneLow e.toneHigh 0 0 with state := sectionsAtRest, walk := none } }

/-- The Link Interface at entry to STANDBY: queue, notice sets and link errors cleared, limits kept
(R164, R192). -/
def Link.standby (l : Link) : Link :=
  { Link.reset with limits := l.limits, window := l.window.abandon }

/-- Entry to STANDBY as one change, with the lines as sampled there (R163). -/
def State.enterStandby (s : State) (crank : Bool) (awarn : Vector Bool 3) : State :=
  { s with
    pins := { s.pins with crankAsserted := crank, awarn := awarn }
    ctl := { s.ctl with
      mode := .standby, host := false, crank := crank, crankTimer := none
      wake := .longLow, wakeUp := none }
    table := s.table.freeEvery
    prec := { s.prec with spill := Vector.replicate 32 false }
    speed := s.speed.standby
    grid := Vector.replicate 24 .silent
    mixer := s.mixer.standby
    eq := s.eq.standby
    prot := .reset awarn
    link := s.link.standby }

/-- The meanings of a WAKE low by its length in nanoseconds (R163). -/
inductive LowMeaning where
  | ignored | pulse | standby
  deriving DecidableEq, Repr

/-- R163: less than 2 µs, less than 100 µs, 100 µs or more. -/
def lowMeaning (lowNs : Nat) : LowMeaning :=
  if lowNs < 2000 then .ignored else if lowNs < 100000 then .pulse else .standby

/-- WAKE is high again. -/
def State.wakeRises (s : State) : State := { s with ctl := { s.ctl with wake := .high } }

/-- A wake-up begins with the full 2 ms (R165). -/
def State.beginWakeUp (s : State) : State := { s with ctl := { s.ctl with wakeUp := some 2 } }

/-- POWER_ON (R167). -/
def execPowerOn (lines : Lines) (s : State) : Host.Outcome State Fault Refusal :=
  .next (s.restart lines)

/-- RST_N_ASSERT: the part is held in reset; SDO at high impedance, output slots at 0 (R127, R167). The
blocks take their values at the release (log entry 13). -/
def execRstNAssert (s : State) : Host.Outcome State Fault Refusal :=
  .next { s with
    pins := { s.pins with rstAsserted := true }
    mixer := { s.mixer with held := Vector.replicate 24 0, sending := Vector.replicate 24 0 }
    link := { s.link with window := s.link.window.abandon, sdo := [] } }

/-- RST_N_RELEASE: every block takes its power-on values (R167). A chip-select window in progress is
one that began in reset and is not taken. -/
def execRstNRelease (lines : Lines) (s : State) : Host.Outcome State Fault Refusal :=
  let t := s.restart lines
  .next { t with link := { t.link with window := s.link.window.abandon } }

/-- WAKE_FALL: the measurement of a low begins (R163). A low that has reached 100 µs goes on. -/
def execWakeFall (s : State) : Host.Outcome State Fault Refusal :=
  if s.pins.rstAsserted then .next s
  else
    match s.ctl.wake with
    | .longLow => .next s
    | .high | .low => .next { s with ctl := { s.ctl with wake := .low } }

/-- FAULT_CLEAR_PULSE: the rising edge that ends a low of this length. A pulse clears protection in
SETUP, RUN and LEAVING (R166); in STANDBY a new wake-up begins (R165). A shorter low is ignored; a
longer one entered STANDBY at its 100 µs, and its edge begins the wake-up (R163). -/
def execFaultClearPulse (lowNs : Nat) (s : State) : Host.Outcome State Fault Refusal :=
  if s.pins.rstAsserted then .next s
  else
    match lowMeaning lowNs, s.ctl.mode with
    | .ignored, _ => .next s.wakeRises
    | .pulse, .standby => .next s.wakeRises.beginWakeUp
    | .pulse, _ => .next s.wakeRises.clearProtection
    | .standby, .standby => .next s.wakeRises.beginWakeUp
    | .standby, _ => .next s.wakeRises

/-- ENTRY_TO_STANDBY: a WAKE low reaches 100 µs. In STANDBY it stops a wake-up and its effects are not
made again (R163, R165). -/
def execEntryToStandby (crankAsserted : Bool) (awarn : Vector Bool 3) (s : State) :
    Host.Outcome State Fault Refusal :=
  if s.pins.rstAsserted then .next s
  else if s.ctl.mode = .standby then
    .next { s with ctl := { s.ctl with wake := .longLow, wakeUp := none } }
  else .next (s.enterStandby crankAsserted awarn)

/-- WAKE_UP: the rising edge that ends a low of 100 µs or more begins the wake-up (R165). -/
def execWakeUp (s : State) : Host.Outcome State Fault Refusal :=
  if s.pins.rstAsserted then .next s
  else if s.ctl.mode = .standby then .next s.wakeRises.beginWakeUp
  else .next s.wakeRises

/-- WAKE_UP_STOPPED: a low during the wake-up reaches 2 µs and stops it (R165). -/
def execWakeUpStopped (s : State) : Host.Outcome State Fault Refusal :=
  if s.pins.rstAsserted then .next s
  else if s.ctl.mode = .standby ∧ s.ctl.wakeUp.isSome then
    .next { s with ctl := { s.ctl with wake := .low, wakeUp := none } }
  else .next s

/-- END_OF_WAKE_UP: SETUP, MODE to lane 0, the 24 tone walk timers start with 16 ms (R141, R162,
R165). -/
def execEndOfWakeUp (s : State) : Host.Outcome State Fault Refusal :=
  if s.pins.rstAsserted then .next s
  else if s.ctl.mode = .standby ∧ s.ctl.wakeUp.isSome then
    .next (({ s with
      ctl := { s.ctl with mode := .setup, wakeUp := none }
      eq := { s.eq with speakers := Vector.ofFn fun sp =>
        { s.eq.speakers[sp] with walk := some 16 } } }).raise 0 .mode none)
  else .next s

/-- SET_MODE RUN (R169). -/
def State.setModeRun (s : State) : State × Answer :=
  match s.ctl.mode with
  | .setup => (({ s with ctl := { s.ctl with mode := .run } }).raise 0 .mode none, .plain .done)
  | .leaving => (s, .plain .busy)
  | .run | .standby => (s, .plain .done)

/-- SET_MODE SETUP: in RUN the mode becomes LEAVING and every route is forced; with the table empty
LEAVING ends at once (R43, R44, R170). -/
def State.setModeSetup (s : State) : State × Answer :=
  match s.ctl.mode with
  | .run => (({ s with ctl := { s.ctl with mode := .leaving } }).forceAll.leaveIfEmpty, .plain .done)
  | .setup | .leaving | .standby => (s, .plain .done)

/-- SET_MODE HUSH_ON and HUSH_OFF (R172). -/
def State.setHost (s : State) (present : Bool) : State × Answer :=
  match s.ctl.mode with
  | .run | .leaving => ({ s with ctl := { s.ctl with host := present } }, .plain .done)
  | .setup | .standby => (s, .plain .mode)

/-- SET_MODE by its action (R168). -/
def takeSetMode : Owner := fun _ fs s =>
  match natField fs 0x13#8 with
  | some 0 => s.setModeRun
  | some 1 => s.setModeSetup
  | some 2 => s.setHost true
  | some 3 => s.setHost false
  | _ => (s, .plain .badarg)

/-- SET_CRANK_DELAY (R175). -/
def takeSetCrankDelay : Owner := fun _ fs s =>
  match natField fs 0x12#8 with
  | none => (s, .plain .badarg)
  | some v =>
    ({ s with ctl := { s.ctl with crankDelay := clampNat 0 2000 v } },
      .taken (decide (clampNat 0 2000 v ≠ v)))

/-- The count of a crank release timer that was running before this event (R173). -/
def ModeControl.countCrank (c : ModeControl) : ModeControl :=
  if expiresNext c.crankTimer then { c with crank := false, crankTimer := none }
  else { c with crankTimer := countDown c.crankTimer }

/-- The Mode Controller's millisecond event: first the line, then the count of a running timer other
than one started at this event (R173). -/
def ModeControl.crankMillisecond (c : ModeControl) (asserted : Bool) : ModeControl :=
  match c.crank, c.crankTimer, asserted with
  | false, _, true => { c with crank := true, crankTimer := none }
  | true, _, true => { c with crankTimer := none }
  | true, none, false =>
    if c.crankDelay = 0 then { c with crank := false } else { c with crankTimer := some c.crankDelay }
  | true, some _, false => c.countCrank
  | false, _, false => c.countCrank

/-- SET_MODE with action RUN (R168, R169); the window's own action decides (log entry 12). -/
def execSetModeRun (w : Window) (s : State) : Host.Outcome State Fault Refusal :=
  .next (s.request .setMode w takeSetMode)

/-- SET_MODE with action SETUP (R168, R170). -/
def execSetModeSetup (w : Window) (s : State) : Host.Outcome State Fault Refusal :=
  .next (s.request .setMode w takeSetMode)

/-- SET_MODE with action HUSH_ON (R168, R172). -/
def execHushOn (w : Window) (s : State) : Host.Outcome State Fault Refusal :=
  .next (s.request .setMode w takeSetMode)

/-- SET_MODE with action HUSH_OFF (R168, R172). -/
def execHushOff (w : Window) (s : State) : Host.Outcome State Fault Refusal :=
  .next (s.request .setMode w takeSetMode)

/-- SET_CRANK_DELAY (R175). -/
def execSetCrankDelay (w : Window) (s : State) : Host.Outcome State Fault Refusal :=
  .next (s.request .setCrankDelay w takeSetCrankDelay)

/-- CRANK_N_SAMPLE: the Mode Controller's millisecond event (R173, log entry 4). -/
def execCrankNSample (asserted : Bool) (s : State) : Host.Outcome State Fault Refusal :=
  if s.pins.rstAsserted then .next s
  else
    .next { s with
      pins := { s.pins with crankAsserted := asserted }
      ctl := s.ctl.crankMillisecond asserted }

/-- CRANK_RELEASE_TIMER_EXPIRY: a running crank release timer runs out and removes the CRANK cause
(R173, log entry 3). -/
def execCrankReleaseTimerExpiry (s : State) : Host.Outcome State Fault Refusal :=
  if s.pins.rstAsserted then .next s
  else if s.ctl.crankTimer.isSome then
    .next { s with ctl := { s.ctl with crank := false, crankTimer := none } }
  else .next s

end Sys2Proof.Machine
end

