-- ==== Sys2Proof/Machine/Packets.lean ====
section
/-! DEFINITION. Packets whose bytes decide what they are: faulty headers and unknown kinds (R179,
R181). -/
namespace Sys2Proof.Machine

/-- The owner of each request kind. NULL has none: it is taken and answers nothing. -/
def ownerOf : Kind → Owner
  | .null => fun _ _ s => (s, .plain .done)
  | .getStatus => takeGetStatus
  | .getNotices => takeGetNotices
  | .setLimit => takeSetLimit
  | .setMode => takeSetMode
  | .clearProtect => takeClearProtect
  | .openRoute => takeOpen
  | .adjust => takeAdjust
  | .close => takeClose
  | .query => takeQuery
  | .list => takeList
  | .speed => takeSpeed
  | .setStale => takeSetStale
  | .setMaster => takeSetMaster
  | .setZone => takeSetZone
  | .setCrankDelay => takeSetCrankDelay
  | .loadSpeaker => takeLoadSpeaker
  | .loadCurve => takeLoadCurve
  | .loadDuck => takeLoadDuck
  | .loadRamp => takeLoadRamp
  | .loadTone => takeLoadTone
  | .loadVoicing => takeLoadVoicing
  | .setQuota => takeSetQuota

/-- A packet with a sound header, by its kind code (R181). -/
def State.handlePacket (s : State) (code : BitVec 6) (w : Window) : State :=
  match Kind.ofCode code with
  | none => s.handleUnknown code w
  | some .null => s
  | some k => s.handle k w (ownerOf k)

/-- A packet of any bytes: captured where its header is faulty (R179), handled by its kind code where
the header is sound (R181). -/
def State.handleBytes (s : State) (sdi : List Byte) : State :=
  match readHeader sdi with
  | none => s.captureFault sdi
  | some h => s.handlePacket h.code ⟨h.lane, h.length, sdi.drop 4⟩

/-- HEADER_FAULT: a window whose packet has a faulty header (R179). Bytes whose header is sound are no
header fault; the packet they spell is taken (log entry 12). -/
def execHeaderFault (sdi : List Byte) (s : State) : Host.Outcome State Fault Refusal :=
  .next (s.takeWindow sdi.length fun s => s.handleBytes sdi)

/-- UNKNOWN_KIND: a sound header whose code names no kind (R181). A code that names a kind is a packet
of that kind (log entry 12). -/
def execUnknownKind (code : BitVec 6) (w : Window) (s : State) : Host.Outcome State Fault Refusal :=
  .next (s.takeWindow (4 + w.body.length) fun s => s.handlePacket code w)

end Sys2Proof.Machine
end

