-- ==== Sys2Proof/Machine/Dispatch.lean ====
section
/-! DEFINITION. The meaning of every command: one arm per constructor of Instr. -/
namespace Sys2Proof.Machine

/-- The effect of a command on everything but the queue. -/
def exec (i : Instr) (s : State) : Host.Outcome State Fault Refusal :=
  match i with
  | .powerOn lines => Sys2Proof.Machine.execPowerOn lines s
  | .rstNAssert => Sys2Proof.Machine.execRstNAssert s
  | .rstNRelease lines => Sys2Proof.Machine.execRstNRelease lines s
  | .wakeFall => Sys2Proof.Machine.execWakeFall s
  | .faultClearPulse lowNs => Sys2Proof.Machine.execFaultClearPulse lowNs s
  | .entryToStandby crankAsserted awarn => Sys2Proof.Machine.execEntryToStandby crankAsserted awarn s
  | .wakeUp => Sys2Proof.Machine.execWakeUp s
  | .wakeUpStopped => Sys2Proof.Machine.execWakeUpStopped s
  | .endOfWakeUp => Sys2Proof.Machine.execEndOfWakeUp s
  | .null w => Sys2Proof.Machine.execNull w s
  | .headerFault sdi => Sys2Proof.Machine.execHeaderFault sdi s
  | .unknownKind code w => Sys2Proof.Machine.execUnknownKind code w s
  | .getStatus w => Sys2Proof.Machine.execGetStatus w s
  | .getNotices w => Sys2Proof.Machine.execGetNotices w s
  | .setLimit w => Sys2Proof.Machine.execSetLimit w s
  | .setModeRun w => Sys2Proof.Machine.execSetModeRun w s
  | .setModeSetup w => Sys2Proof.Machine.execSetModeSetup w s
  | .endOfLeaving => Sys2Proof.Machine.execEndOfLeaving s
  | .hushOn w => Sys2Proof.Machine.execHushOn w s
  | .hushOff w => Sys2Proof.Machine.execHushOff w s
  | .clearProtect w => Sys2Proof.Machine.execClearProtect w s
  | .openRoute w => Sys2Proof.Machine.execOpenRoute w s
  | .adjust w => Sys2Proof.Machine.execAdjust w s
  | .close w => Sys2Proof.Machine.execClose w s
  | .query w => Sys2Proof.Machine.execQuery w s
  | .list w => Sys2Proof.Machine.execList w s
  | .speed w => Sys2Proof.Machine.execSpeed w s
  | .setStale w => Sys2Proof.Machine.execSetStale w s
  | .setMaster w => Sys2Proof.Machine.execSetMaster w s
  | .setZone w => Sys2Proof.Machine.execSetZone w s
  | .setCrankDelay w => Sys2Proof.Machine.execSetCrankDelay w s
  | .loadSpeaker w => Sys2Proof.Machine.execLoadSpeaker w s
  | .loadCurve w => Sys2Proof.Machine.execLoadCurve w s
  | .loadDuck w => Sys2Proof.Machine.execLoadDuck w s
  | .loadRamp w => Sys2Proof.Machine.execLoadRamp w s
  | .loadTone w => Sys2Proof.Machine.execLoadTone w s
  | .loadVoicing w => Sys2Proof.Machine.execLoadVoicing w s
  | .setQuota w => Sys2Proof.Machine.execSetQuota w s
  | .pass => Sys2Proof.Machine.execPass s
  | .passReport => Sys2Proof.Machine.execPassReport s
  | .holdTimerExpiry slot => Sys2Proof.Machine.execHoldTimerExpiry slot s
  | .slewStep => Sys2Proof.Machine.execSlewStep s
  | .staleTimerExpiry => Sys2Proof.Machine.execStaleTimerExpiry s
  | .toneWalkExpiry => Sys2Proof.Machine.execToneWalkExpiry s
  | .frameEvent samples => Sys2Proof.Machine.execFrameEvent samples s
  | .frameDiscard => Sys2Proof.Machine.execFrameDiscard s
  | .clockLoss => Sys2Proof.Machine.execClockLoss s
  | .overloadEvent speaker => Sys2Proof.Machine.execOverloadEvent speaker s
  | .retryTimerExpiry speaker => Sys2Proof.Machine.execRetryTimerExpiry speaker s
  | .escalationWindowExpiry speaker => Sys2Proof.Machine.execEscalationWindowExpiry speaker s
  | .awarnSample awarn => Sys2Proof.Machine.execAwarnSample awarn s
  | .thermalHoldExpiry port => Sys2Proof.Machine.execThermalHoldExpiry port s
  | .crankNSample asserted => Sys2Proof.Machine.execCrankNSample asserted s
  | .crankReleaseTimerExpiry => Sys2Proof.Machine.execCrankReleaseTimerExpiry s
  | .routeTableMillisecondEvent => Sys2Proof.Machine.execRouteTableMillisecondEvent s
  | .frameBegin => Sys2Proof.Machine.execFrameBegin s
  | .packetWindowBegin => Sys2Proof.Machine.execPacketWindowBegin s

end Sys2Proof.Machine
end

