-- ==== Sys2Proof/Safety.lean ====
section
/-! DEFINITION. What a sound state of the TG-24 is: the invariants of its blocks, and the words in which
the statements speak of packets, answers and notices. -/
namespace Sys2Proof.Machine

/-- The window of a packet of n bytes is taken, and u is the state its packet is checked in: the head
response gone where it was clocked out whole, CS_N high (R177, R185). -/
def Opens (s : State) (n : Nat) (u : State) : Prop :=
  ∃ f, s.windowFixed = some f ∧ u = s.endWindow f.1 f.2 n

/-- A window whose request of this kind passes the link checks of R181 up to its payload: taken, with
queue room and a sound payload. -/
def Arrives (s : State) (w : Window) (u : State) : Prop :=
  Opens s (4 + w.body.length) u ∧ u.link.queue.length < 8 ∧ w.payloadFault = false

/-- A request of this kind passes every link check and is handed to its owner with these fields, in
state u (R181). -/
def Admits (s : State) (k : Kind) (w : Window) (fs : List Field) (u : State) : Prop :=
  Arrives s w u ∧ permitted k w.lane = true ∧ readFields k w.payload = some fs

/-- The link with one more response at the queue's tail, to this window's lane and kind. -/
def State.replied (u : State) (k : Kind) (w : Window) (payload : List Byte) : Link :=
  { u.link with queue := u.link.queue ++ [⟨w.lane, k.code, payload⟩] }

/-- The payload of an answer without data: result code, and TRUNC clear (R186). -/
def dataless (r : Result) : List Byte := [r.code, 0#8]

/-- DONE, or ADJUSTED where a value was clamped. -/
def doneOr (adjusted : Prop) [Decidable adjusted] : Result := if adjusted then .adjusted else .done

/-- On lanes 1 to 3 the request c of this kind is answered DENIED and changes nothing more (R183). -/
def HeadLaneOnly (k : Kind) (c : Window → Instr) : Prop :=
  ∀ (s : State) (w : Window) (u : State), Arrives s w u → w.lane ≠ 0 →
    exec (c w) s = .next { u with link := u.replied k w (dataless .denied) }

/-- The state after an answer on a route's slot: the slot's record replaced, its generation kept. -/
def withRoute (u : State) (i : SlotId) (r : Route) (l : Link) : State :=
  { u with
    table := { u.table with slots := upd u.table.slots i fun slot => { slot with route := some r } }
    link := l }

/-- Route a stands against route r of slot i at zone z: R56's four conditions. -/
def StandsAgainst (s : State) (a : SlotId) (ra : Route) (i : SlotId) (r : Route) (z : Zone) : Prop :=
  s.routeAt a = some ra ∧ a ≠ i ∧ ra.state ≠ .closing
  ∧ (if s.prec.spill[a] then 15#4 else ra.zones).getLsbD z.val = true
  ∧ (if s.prec.spill[i] then 15#4 else r.zones).getLsbD z.val = true
  ∧ (ra.cls ≠ r.cls ∨ s.table.order.idxOf i < s.table.order.idxOf a)

/-- The notice sets after a notice is raised into a lane's set (R189). -/
def noticed (notices : Vector NoticeSet 4) (lane : LaneId) (k : Notice) (h : Option Handle) :
    Vector NoticeSet 4 :=
  upd notices lane fun ns => { kinds := upd ns.kinds k.index fun _ => true, latest := h.or ns.latest }

/-- Of these slots, those whose route the lane owns. -/
def State.ownedBy (s : State) (l : List SlotId) (lane : LaneId) : List SlotId :=
  l.filter fun i => (s.routeAt i).any fun r => decide (r.owner = lane)

/-- The notice sets b after notices of kind k about these slots of each lane, in their order, were raised
over the sets a: the kind stands where it stood or a slot is named, every other kind is as it was, and the
latest handle is that of the last slot named, or as it was (R189). -/
def Raised (s : State) (k : Notice) (mine : LaneId → List SlotId) (a b : Vector NoticeSet 4) : Prop :=
  ∀ lane : LaneId,
    (∀ n : Fin 9, (b[lane]).kinds[n] = true ↔ (a[lane]).kinds[n] = true ∨ n = k.index ∧ mine lane ≠ [])
    ∧ (b[lane]).latest = ((mine lane).getLast?.map s.handleAt).or (a[lane]).latest

/-- Every kind that stood in a notice set still stands in it. -/
def NoticesKept (a b : Vector NoticeSet 4) : Prop :=
  ∀ (lane : LaneId) (k : Fin 9), (a[lane]).kinds[k] = true → (b[lane]).kinds[k] = true

/-- Every setting of the Cabin Map lies in its range (R1, R6, R7). -/
def CabinInv (s : State) : Prop :=
  (∀ sp : SpeakerId,
      -96 ≤ (s.cabin.speakers[sp]).trim ∧ (s.cabin.speakers[sp]).trim ≤ 0
      ∧ (s.cabin.speakers[sp]).threshold ≤ 96
      ∧ 1 ≤ (s.cabin.speakers[sp]).deglitch ∧ (s.cabin.speakers[sp]).deglitch ≤ 64)
  ∧ (∀ z : Zone,
      -480 ≤ (s.cabin.zones[z]).level ∧ (s.cabin.zones[z]).level ≤ 0
      ∧ -12 ≤ (s.cabin.zones[z]).bass ∧ (s.cabin.zones[z]).bass ≤ 12
      ∧ -12 ≤ (s.cabin.zones[z]).treble ∧ (s.cabin.zones[z]).treble ≤ 12)
  ∧ -480 ≤ s.cabin.masterLevel ∧ s.cabin.masterLevel ≤ 0

/-- The duck matrix holds attenuations, its ALERT column 0 (R53); the ramp profiles hold rates (R99);
the quotas are quotas (R24). -/
def TablesInv (s : State) : Prop :=
  (∀ a v : RouteClass, (s.prec.duck[a.index])[v.index] ≤ 480)
  ∧ (∀ a : RouteClass, (s.prec.duck[a.index])[RouteClass.alert.index] = 0)
  ∧ (∀ p : Fin 8,
      1 ≤ (s.ramps[p]).rise ∧ (s.ramps[p]).rise ≤ 480 ∧ 1 ≤ (s.ramps[p]).fall ∧ (s.ramps[p]).fall ≤ 480)
  ∧ (∀ lane : LaneId, s.table.quotas[lane] ≤ 32)

/-- The Speed Monitor: speeds and stale time in range, the timer running exactly while FRESH, curves of
strictly rising speeds with gains in range (R70, R79). -/
def SpeedInv (s : State) : Prop :=
  s.speed.reported ≤ 1200 ∧ s.speed.effective ≤ 1200
  ∧ 100 ≤ s.speed.staleTime ∧ s.speed.staleTime ≤ 2000
  ∧ (s.speed.freshness = .fresh ↔ s.speed.staleTimer.isSome = true)
  ∧ (∀ n, s.speed.staleTimer = some n → 1 ≤ n ∧ n ≤ 2000)
  ∧ (∀ (c : Fin 4) (i : Fin 8),
      ((s.speed.curves[c])[i]).speed ≤ 1200
      ∧ 0 ≤ ((s.speed.curves[c])[i]).gain ∧ ((s.speed.curves[c])[i]).gain ≤ 72
      ∧ ∀ j : Fin 8, i < j → ((s.speed.curves[c])[i]).speed < ((s.speed.curves[c])[j]).speed)

/-- A route record whose fields agree with one another (R20, R30, R33). -/
def Route.sound (r : Route) : Prop :=
  -480 ≤ r.level ∧ r.level ≤ 0
  ∧ (∀ p, r.placement = some p → -20 ≤ p.balance ∧ p.balance ≤ 20 ∧ -20 ≤ p.fade ∧ p.fade ≤ 20)
  ∧ r.zones ≠ 0#4
  ∧ ¬(r.width = .stereo ∧ r.source = 15)
  ∧ (r.cause.isSome = true ↔ r.state = .closing)
  ∧ (r.state = .closing → r.holdLeft = none)
  ∧ (∀ n, r.holdLeft = some n → 1 ≤ n ∧ ∃ m, r.holdTime = some m ∧ n ≤ m)

/-- The Route Table: the opening order list holds the non-FREE slots, each once (R23); their generations
are not 0 (R19) and their records sound (R20); no lane has more of them than its quota (R24); only ALERT
routes take the reserve (R26); a spill flag stands on an ALERT route alone (R63); no route in STANDBY or
SETUP, and none but CLOSING ones in LEAVING, which ends with the last (R27, R43, R44). -/
def TableInv (s : State) : Prop :=
  s.table.order.Nodup
  ∧ (∀ i : SlotId, i ∈ s.table.order ↔ (s.routeAt i).isSome = true)
  ∧ (∀ (i : SlotId) (r : Route), s.routeAt i = some r → (s.handleAt i).gen ≠ 0#8 ∧ r.sound)
  ∧ (∀ lane : LaneId,
      s.table.slots.toList.countP (fun slot => slot.route.any fun r => decide (r.owner = lane))
        ≤ s.table.quotas[lane])
  ∧ s.table.slots.toList.countP (fun slot => slot.route.any fun r => decide (r.cls ≠ .alert)) ≤ 30
  ∧ (∀ i : SlotId, s.prec.spill[i] = true → ∃ r, s.routeAt i = some r ∧ r.cls = .alert)
  ∧ (s.ctl.mode = .standby ∨ s.ctl.mode = .setup → ∀ i : SlotId, s.routeAt i = none)
  ∧ (s.ctl.mode = .leaving →
      (∃ i : SlotId, (s.routeAt i).isSome = true)
      ∧ ∀ (i : SlotId) (r : Route), s.routeAt i = some r → r.state = .closing)

/-- The slot's cells are all silent and hold no lane (R92). -/
def State.slotSilent (s : State) (i : SlotId) : Prop :=
  ∀ sp : SpeakerId, (s.grid[sp]).cells[i] = Cell.silent ∧ (s.grid[sp]).holds i = false

/-- The grid: gains in −480..+48 (R86); a cell holds one lane at most, a cell without one is at −480,
yielding marks stand on holders and waiting marks on others (R112); a FREE slot's cells are silent, as
are those of a route that a report not yet taken names silent (R92, R106); nothing sounds at an absent
speaker (R2). -/
def GridInv (s : State) : Prop :=
  (∀ (sp : SpeakerId) (i : SlotId),
      -480 ≤ ((s.grid[sp]).cells[i]).target ∧ ((s.grid[sp]).cells[i]).target ≤ 48
      ∧ -480 ≤ ((s.grid[sp]).cells[i]).applied ∧ ((s.grid[sp]).cells[i]).applied ≤ 48
      ∧ ((s.grid[sp]).holds i = false → ((s.grid[sp]).cells[i]).applied = -480)
      ∧ (((s.grid[sp]).cells[i]).yielding = true → (s.grid[sp]).holds i = true)
      ∧ (((s.grid[sp]).cells[i]).waiting = true → (s.grid[sp]).holds i = false))
  ∧ (∀ (sp : SpeakerId) (i : SlotId) (k k' : MixId),
      (s.grid[sp]).lanes[k] = some i → (s.grid[sp]).lanes[k'] = some i → k = k')
  ∧ (∀ i : SlotId, s.routeAt i = none → s.slotSilent i)
  ∧ (∀ rep, s.table.report = some rep → ∀ h ∈ rep.silent, s.slotSilent h.slot)
  ∧ (∀ sp : SpeakerId, (s.cabin.speakers[sp]).present = false → ∀ i : SlotId,
      (s.grid[sp]).cells[i] = Cell.silent ∧ (s.grid[sp]).holds i = false)

/-- One speaker's protection: its gate open exactly while NORMAL, each timer in range and running only
in its own state, the repeat count and frame counter in range, and the summary flag set while there is
something to report (R146, R148, R151). -/
def SpeakerProt.sound (p : SpeakerProt) (gate : Bool) (e : SpeakerEntry) (summary : Bool) : Prop :=
  (gate = true ↔ p.state = .normal)
  ∧ (p.retry.isSome = true ↔ p.state = .tripped)
  ∧ (p.window.isSome = true → p.state = .normal)
  ∧ (∀ n, p.retry = some n → 1 ≤ n ∧ n ≤ 500)
  ∧ (∀ n, p.window = some n → 1 ≤ n ∧ n ≤ 2000)
  ∧ p.repeats ≤ 4
  ∧ (p.repeats = 4 ↔ p.state = .latched .escalated)
  ∧ p.counter < e.deglitch
  ∧ (p.state ≠ .normal ∨ p.report = true → summary = true)

/-- The Protection Monitor and the gates (R146); a thermal hold timer runs exactly while its port is
HOLDING. -/
def ProtectionInv (s : State) : Prop :=
  (∀ sp : SpeakerId,
      (s.prot.speakers[sp]).sound s.mixer.gates[sp] s.cabin.speakers[sp] s.prot.summary)
  ∧ (∀ port : PortId,
      ((s.prot.ports[port]).hold.isSome = true ↔ (s.prot.ports[port]).state = .holding)
      ∧ ∀ n, (s.prot.ports[port]).hold = some n → 1 ≤ n ∧ n ≤ 2000)

/-- The Link Interface: at most 8 responses, each within the largest limit (R184, R186), limits in range
(R187), LINK_ERR set exactly while the capture is HELD, with at most 4 bytes and 255 later errors
(R179). -/
def LinkInv (s : State) : Prop :=
  s.link.queue.length ≤ 8
  ∧ (∀ r ∈ s.link.queue, 2 ≤ r.payload.length ∧ r.payload.length ≤ 508)
  ∧ (∀ lane : LaneId, 8 ≤ s.link.limits[lane] ∧ s.link.limits[lane] ≤ 508)
  ∧ (s.link.linkErr = true ↔ s.link.capture.isSome = true)
  ∧ (∀ bs, s.link.capture = some bs → bs.length ≤ 4)
  ∧ (s.link.capture = none → s.link.laterErrors = 0)
  ∧ s.link.laterErrors ≤ 255

/-- The Mode Controller and the tone walk: HOST stands in RUN and LEAVING alone (R172), the crank timer
runs only while CRANK is present (R173), a wake-up runs in STANDBY alone (R165), and the tone walk timers
run in every mode but STANDBY (R141). -/
def ModeInv (s : State) : Prop :=
  (s.ctl.host = true → s.ctl.mode = .run ∨ s.ctl.mode = .leaving)
  ∧ (s.ctl.crankTimer.isSome = true → s.ctl.crank = true)
  ∧ (∀ n, s.ctl.crankTimer = some n → 1 ≤ n ∧ n ≤ 2000)
  ∧ s.ctl.crankDelay ≤ 2000
  ∧ (s.ctl.wakeUp.isSome = true → s.ctl.mode = .standby)
  ∧ (∀ sp : SpeakerId, (s.eq.speakers[sp]).walk.isSome = true ↔ s.ctl.mode ≠ .standby)

/-- What an overload event makes of a speaker's protection items under its mode (R149 to R152). -/
def Overloaded (m : ProtMode) (old now : SpeakerProt) : Prop :=
  let trips := if old.window.isSome then old.repeats + 1 else 1
  let tripped (ms : Nat) : SpeakerProt :=
    { old with state := .tripped, counter := 0, retry := some ms, repeats := trips, window := none }
  let escalated : SpeakerProt :=
    { old with
      state := .latched .escalated, counter := 0, retry := none, repeats := trips, window := none }
  match m with
  | .off => False
  | .report => now = { old with counter := 0, report := true }
  | .retryFast => (trips < 4 → now = tripped 50) ∧ (4 ≤ trips → now = escalated)
  | .retrySlow => (trips < 4 → now = tripped 500) ∧ (4 ≤ trips → now = escalated)
  | .latch => now = { old with state := .latched .direct, counter := 0, window := none }

/-- The mixed sample of a speaker over these lanes: the feeds (the source slot's sample, or of a STEREO
route the left one, the right one or the floor of their mean, by the speaker's side) times the gains in
use, plus 2^22, over 2^23, rounded down and saturated to 24 bits (R18, R135). -/
def State.mixHeard (s : State) (samples : Vector Sample 16) (sp : SpeakerId) (lanes : Vector MixLane 8) :
    Int :=
  let left (r : Route) : Int := (samples[r.source]).toInt
  let right (r : Route) : Int := (samples[r.source + 1]).toInt
  let fed (r : Route) : Int := match r.width, (s.cabin.speakers[sp]).side with
    | .mono, _ => left r
    | .stereo, .left => left r
    | .stereo, .right => right r
    | .stereo, .centre => (left r + right r).fdiv 2
  let part (k : MixId) : Int :=
    match (lanes[k]).holder with
    | none => 0
    | some i =>
      match s.routeAt i with
      | none => 0
      | some r => fed r * (lanes[k]).gain
  max (-8388608) (min 8388607 ((((List.finRange 8).map part).sum + 4194304).fdiv 8388608))

/-- A speaker's six sections take x to y and their states from old to new: each section's input is the
output of the one before, its output the saturated sum of R136, its state moved by one (R136). -/
def Filters (e : SpeakerEq) (old : Vector SectionState 6) (x y : Int) (new : Vector SectionState 6) :
    Prop :=
  ∃ v : Vector Int 7, v[(0 : Fin 7)] = x ∧ v[(6 : Fin 7)] = y ∧ ∀ n : Fin 6,
    let c : Coeffs := #v[e.voicing[0], e.voicing[1], e.voicing[2], e.voicing[3], e.low, e.high][n]
    let st := old[n]
    v[n.succ] = max (-8388608) (min 8388607
        ((c.b0 * v[n.castSucc] + c.b1 * st.x1 + c.b2 * st.x2 - c.a1 * st.y1 - c.a2 * st.y2
          + 2097152).fdiv 4194304))
    ∧ new[n] = ⟨v[n.castSucc], st.x1, v[n.succ], st.y1⟩

/-- A number of 24 bits, signed. -/
def Is24 (x : Int) : Prop := -8388608 ≤ x ∧ x ≤ 8388607

def Coeffs.in24 (c : Coeffs) : Prop := Is24 c.b0 ∧ Is24 c.b1 ∧ Is24 c.b2 ∧ Is24 c.a1 ∧ Is24 c.a2

def SectionState.in24 (st : SectionState) : Prop := Is24 st.x1 ∧ Is24 st.x2 ∧ Is24 st.y1 ∧ Is24 st.y2

/-- A mix lane: gains in use and end value in range, at most 48 frames counted (R132). -/
def MixLane.sound (l : MixLane) : Prop :=
  0 ≤ l.gain ∧ l.gain ≤ 33554432 ∧ 0 ≤ l.start ∧ l.start ≤ 33554432
  ∧ -480 ≤ l.goal ∧ l.goal ≤ 48 ∧ l.frames ≤ 48

/-- The signal path: every sample, section state and coefficient is a 24-bit number (R127, R136), every
lane's gain is in range (R131, R132), every applied tone index in −12..+12 (R139). -/
def SignalInv (s : State) : Prop :=
  (∀ sp : SpeakerId, Is24 s.mixer.held[sp] ∧ Is24 s.mixer.sending[sp])
  ∧ (∀ (sp : SpeakerId) (k : MixId), ((s.mixer.lanes[sp])[k]).sound)
  ∧ (∀ sp : SpeakerId,
      (∀ n : Fin 6, ((s.eq.speakers[sp]).state[n]).in24)
      ∧ (∀ n : Fin 4, ((s.eq.speakers[sp]).voicing[n]).in24)
      ∧ (s.eq.speakers[sp]).low.in24 ∧ (s.eq.speakers[sp]).high.in24
      ∧ -12 ≤ (s.eq.speakers[sp]).lowIndex ∧ (s.eq.speakers[sp]).lowIndex ≤ 12
      ∧ -12 ≤ (s.eq.speakers[sp]).highIndex ∧ (s.eq.speakers[sp]).highIndex ≤ 12)
  ∧ (∀ n : Fin 25, (s.eq.toneLow[n]).in24 ∧ (s.eq.toneHigh[n]).in24)

end Sys2Proof.Machine
end

