-- ==== Sys2Proof/Certificates/Slice0/Obligations.lean ====
section
/-! DEFINITION. The statements about the TG-24: what each command does and leaves alone, and what every
step keeps. -/

open Sys2Proof Sys2Proof.Machine

/-! ### The queue of commands, and the bytes of packets -/

/-- A step runs the command at the front of the queue with the queue's rest; on an empty queue it leaves
everything as it is (the model's choice, log entry 2). -/
def Obligations.StepRunsTheFrontCommand : Prop :=
  (∀ (c : Instr) (rest : List Instr) (s : State),
    step { s with pending := c :: rest } = exec c { s with pending := rest })
  ∧ ∀ s : State, s.pending = [] → step s = .next s

/-- Every command answers a next state from every state, and none touches the queue. -/
def Obligations.EveryCommandAnswersAndKeepsTheQueue : Prop :=
  ∀ (c : Instr) (s : State), ∃ t, exec c s = .next t ∧ t.pending = s.pending

/-- The bytes of every well-formed packet command spell that command (R178, R179, R181; the kind code
table). That a SET_MODE which names no action stands under SET_MODE_RUN is the model's choice (log entry
12). -/
def Obligations.PacketBytesSpellTheirCommand : Prop :=
  ∀ (c : Instr) (bytes : List Byte), c.wf = true → encodeWindow c = some bytes → decodeWindow bytes = c

/-- Whatever bytes a window holds, they are the bytes of one well-formed command (R178, R179). That a
SET_MODE which names no action stands under SET_MODE_RUN is the model's choice (log entry 12). -/
def Obligations.EveryWindowSpellsOneCommand : Prop :=
  ∀ bytes : List Byte, (decodeWindow bytes).wf = true ∧ encodeWindow (decodeWindow bytes) = some bytes

/-- A payload reads as these fields exactly when it is their tags and values in a row, each tag in the
kind's table with its size, no tag twice, and a handle where the kind needs one (R182). A payload of up
to 508 bytes framed with its length and CRC-16 is no payload fault (R178, R180). -/
def Obligations.PayloadsAreSequencesOfFields : Prop :=
  (∀ (k : Kind) (payload : List Byte) (fs : List Field),
    readFields k payload = some fs ↔
      payload = fs.flatMap (fun f => f.tag :: f.value)
      ∧ (∀ f ∈ fs, k.fieldSize f.tag = some f.value.length)
      ∧ (fs.map (·.tag)).Nodup
      ∧ (k = .adjust ∨ k = .close ∨ k = .query → 0x01#8 ∈ fs.map (·.tag)))
  ∧ ∀ (lane : LaneId) (payload : List Byte), payload.length ≤ 508 →
      (Window.ofPayload lane payload).payloadFault = false
      ∧ (Window.ofPayload lane payload).payload = payload

/-! ### The Control Link -/

/-- PACKET_WINDOW_BEGIN fixes the status summary byte and the head response, where packets are taken, and
changes nothing else; elsewhere the window is one that is not taken (R177, R164, R165). The byte shows
its eight flags, and ATTN_N follows five of them (R188).
A window that is not taken (in STANDBY, during the wake-up, in reset, or begun there) leaves no trace:
no packet is parsed, answered or captured, whichever of the packet commands it is (R164, R165, R167). -/
def Obligations.WindowStartFixesStatusAndHead : Prop :=
  ((∀ s : State, s.link.window = .idle → s.pins.rstAsserted = false → s.ctl.mode ≠ .standby →
      exec .packetWindowBegin s =
        .next { s with link := { s.link with window := .active s.statusByte s.link.queue.head? } })
    ∧ (∀ s : State, s.link.window = .idle → (s.pins.rstAsserted = true ∨ s.ctl.mode = .standby) →
      exec .packetWindowBegin s = .next { s with link := { s.link with window := .ignored } })
    ∧ ∀ s : State,
      (s.statusByte.getLsbD 7 = true ↔ s.link.queue ≠ [])
      ∧ (s.statusByte.getLsbD 6 = true ↔
          ∃ (lane : LaneId) (k : Fin 9), (s.link.notices[lane]).kinds[k] = true)
      ∧ (s.statusByte.getLsbD 5 = true ↔ s.prot.summary = true)
      ∧ (s.statusByte.getLsbD 4 = true ↔ s.speed.freshness = .stale)
      ∧ (s.statusByte.getLsbD 3 = true ↔ s.mixer.clock = .lost)
      ∧ (s.statusByte.getLsbD 2 = true ↔ s.link.linkErr = true)
      ∧ (s.statusByte.getLsbD 1 = true ↔ s.link.overrun = true)
      ∧ (s.statusByte.getLsbD 0 = true ↔ s.ctl.host = true ∨ s.ctl.crank = true)
      ∧ (s.attnLow = true ↔
          s.pins.rstAsserted = false ∧ s.ctl.mode ≠ .standby
          ∧ ∃ n : Fin 8, n ∈ [7, 6, 5, 2, 1] ∧ s.statusByte.getLsbD n.val = true))
  ∧ (∀ (c : Instr) (s : State), (encodeWindow c).isSome = true →
      (s.pins.rstAsserted = true ∨ s.ctl.mode = .standby ∨ s.link.window = .ignored) →
      exec c s = .next { s with link := { s.link with window := .idle, sdo := [] } })

/-- NULL produces no response: the window clocks out the status byte, the head response and then 0x00,
the response leaves the queue exactly when its last byte was clocked out, and nothing else changes
(R177, R180, R181, R185). -/
def Obligations.NullDeliversTheHeadResponse : Prop :=
  ∀ (s : State) (w : Window) (status : Byte) (head : Option Response),
    s.pins.rstAsserted = false → s.ctl.mode ≠ .standby →
    (s.link.window = .active status head
      ∨ s.link.window = .idle ∧ status = s.statusByte ∧ head = s.link.queue.head?) →
    ∃ (sdo : List Byte) (queue : List Response),
      exec (.null w) s =
        .next { s with link := { s.link with window := .idle, sdo := sdo, queue := queue } }
      ∧ sdo.length = 4 + w.body.length
      ∧ (∀ j, j < sdo.length →
          sdo[j]? = some ((status :: (match head with | some r => r.bytes | none => [])).getD j 0#8))
      ∧ (∀ r, head = some r → r.payload.length + 7 ≤ 4 + w.body.length → queue = s.link.queue.tail)
      ∧ (∀ r, head = some r → 4 + w.body.length < r.payload.length + 7 → queue = s.link.queue)
      ∧ (head = none → queue = s.link.queue)

/-- A header is faulty when its window has fewer than 4 bytes or its fourth byte is not the CRC-8 of the
three before it. HEADER_FAULT then sets LINK_ERR, captures the first faulty header's bytes or counts a
later one up to 255, answers nothing and changes nothing else (R179).
The link checks of every request but NULL, in order: queue room (OVERRUN), payload (CHECK), kind
(UNKNOWN), lane (DENIED), structure (BADARG). Each refusal queues one answer at most and changes
nothing else (R180, R181, R183). -/
def Obligations.LinkChecksStandInOrder : Prop :=
  ((∀ sdi : List Byte, readHeader sdi = none ↔ sdi[3]? ≠ some (crc8 (sdi.take 3)))
    ∧ ∀ (s : State) (sdi : List Byte) (u : State), readHeader sdi = none → Opens s sdi.length u →
        (u.link.capture = none →
          exec (.headerFault sdi) s =
            .next { u with link := { u.link with linkErr := true, capture := some (sdi.take 4) } })
        ∧ (∀ held, u.link.capture = some held →
          exec (.headerFault sdi) s =
            .next { u with link := { u.link with
              linkErr := true, laterErrors := min 255 (u.link.laterErrors + 1) } }))
  ∧ ((∀ (s : State) (k : Kind) (w : Window) (u : State), k ≠ .null → Opens s (4 + w.body.length) u →
      (8 ≤ u.link.queue.length →
        exec (commandOf k w) s = .next { u with link := { u.link with overrun := true } })
      ∧ (u.link.queue.length < 8 → w.payloadFault = true →
        exec (commandOf k w) s = .next { u with link := u.replied k w (dataless .check) })
      ∧ (u.link.queue.length < 8 → w.payloadFault = false → permitted k w.lane = false →
        exec (commandOf k w) s = .next { u with link := u.replied k w (dataless .denied) })
      ∧ (u.link.queue.length < 8 → w.payloadFault = false → permitted k w.lane = true →
        readFields k w.payload = none →
        exec (commandOf k w) s = .next { u with link := u.replied k w (dataless .badarg) }))
    ∧ ∀ (s : State) (code : BitVec 6) (w : Window) (u : State), Kind.ofCode code = none →
        Opens s (4 + w.body.length) u →
        (8 ≤ u.link.queue.length →
          exec (.unknownKind code w) s = .next { u with link := { u.link with overrun := true } })
        ∧ (u.link.queue.length < 8 →
          exec (.unknownKind code w) s =
            .next { u with link := { u.link with
              queue := u.link.queue
                ++ [⟨w.lane, code, dataless (if w.payloadFault then .check else .unknown)⟩] } }))

/-- GET_STATUS answers DONE with the 43 bytes of its layout as they stand, cut at the lane's limit; from
lane 0 it then clears the capture, its count, LINK_ERR and OVERRUN, and from another lane it changes
nothing (R191, section 10.9).
GET_NOTICES answers DONE with the asking lane's kinds and latest handle, empties that set and leaves
the other lanes' sets and everything else alone (R190, section 10.9). -/
def Obligations.StatusAndNoticesAreReported : Prop :=
  (∀ (s : State) (w : Window) (fs : List Field) (u : State), Admits s .getStatus w fs u →
      let payload := (Answer.mk .done u.statusItems).payload u.link.limits[w.lane]
      exec (.getStatus w) s =
        .next { u with link :=
          if w.lane = 0 then
            { u.replied .getStatus w payload with
              capture := none, laterErrors := 0, linkErr := false, overrun := false }
          else u.replied .getStatus w payload }
      ∧ (45 ≤ u.link.limits[w.lane] →
          payload = 0#8 :: 0#8 ::
            ([u.ctl.mode.code, u.hushByte, flagByte u.link.overrun,
              (match u.link.capture with | none => 0xFF#8 | some bs => byte bs.length)]
            ++ ((u.link.capture.getD []) ++ [0#8, 0#8, 0#8, 0#8]).take 4
            ++ [byte u.link.laterErrors, flagByte u.prot.summary, u.mixer.clock.code,
              u.speed.freshness.code]
            ++ le16 u.speed.reported ++ le16 u.speed.effective
            ++ u.prot.ports.toList.map (fun p => p.state.code)
            ++ u.prot.speakers.toList.map SpeakerProt.byte)))
  ∧ (∀ (s : State) (w : Window) (fs : List Field) (u : State), Admits s .getNotices w fs u →
      7 ≤ u.link.limits[w.lane] →
      ∃ lo hi : Byte,
        exec (.getNotices w) s =
          .next { u with link :=
            { u.replied .getNotices w
                ([0#8, 0#8, lo, hi] ++
                  (match (u.link.notices[w.lane]).latest with
                    | some h => [1#8, byte h.slot.val, h.gen]
                    | none => [0#8, 0#8, 0#8])) with
              notices := upd u.link.notices w.lane fun _ => NoticeSet.empty } }
        ∧ (∀ n : Fin 9, (hi ++ lo).getLsbD n.val = (u.link.notices[w.lane]).kinds[n])
        ∧ ∀ n, 9 ≤ n → (hi ++ lo).getLsbD n = false)

/-- SET_LIMIT replaces the sending lane's limit by the value clamped to 8..508, answers ADJUSTED where the
clamp changed it, and BADARG without the field; every limit is 64 after power-on, and STANDBY keeps the
limits (R187).
The payload of an answer is its result code, its flags and its first items: as many whole items as
fit within the limit, TRUNC set exactly where one is left out (R186). -/
def Obligations.LimitsBoundTheAnswers : Prop :=
  ((∀ (s : State) (w : Window) (fs : List Field) (u : State), Admits s .setLimit w fs u →
      (natField fs 0x16#8 = none →
        exec (.setLimit w) s = .next { u with link := u.replied .setLimit w (dataless .badarg) })
      ∧ ∀ v, natField fs 0x16#8 = some v →
        exec (.setLimit w) s =
          .next { u with link :=
            { u.replied .setLimit w (dataless (doneOr (v < 8 ∨ 508 < v))) with
              limits := upd u.link.limits w.lane fun _ => max 8 (min v 508) } })
    ∧ (∀ (lines : Lines) (s t : State), (exec (.powerOn lines) s = .next t ∨
        exec (.rstNRelease lines) s = .next t) → ∀ lane : LaneId, t.link.limits[lane] = 64)
    ∧ ∀ (crank : Bool) (awarn : Vector Bool 3) (s t : State),
        exec (.entryToStandby crank awarn) s = .next t → t.link.limits = s.link.limits)
  ∧ (∀ (a : Answer) (limit : Nat), 2 ≤ limit →
      ∃ n, n ≤ a.items.length
        ∧ (a.payload limit).length ≤ limit
        ∧ (n = a.items.length →
            a.payload limit = a.result.code :: 0#8 :: (a.items.take n).flatten)
        ∧ (n < a.items.length →
            a.payload limit = a.result.code :: 1#8 :: (a.items.take n).flatten
            ∧ limit < 2 + (a.items.take (n + 1)).flatten.length))

/-! ### Operating modes -/

/-- SET_MODE by its action, for all four commands: RUN enters RUN from SETUP with a MODE notice, changes
nothing in RUN and is answered BUSY in LEAVING; SETUP changes nothing in SETUP and LEAVING; HUSH_ON and
HUSH_OFF set and clear the HOST cause in RUN and LEAVING and are answered MODE in SETUP; no action or an
unknown one is answered BADARG; on lanes 1 to 3 all are DENIED (R168, R169, R170, R172). -/
def Obligations.SetModeActsByItsAction : Prop :=
  HeadLaneOnly .setMode .setModeRun ∧ HeadLaneOnly .setMode .setModeSetup
  ∧ HeadLaneOnly .setMode .hushOn ∧ HeadLaneOnly .setMode .hushOff
  ∧ ∀ (s : State) (w : Window) (fs : List Field) (u : State), Admits s .setMode w fs u →
      (natField fs 0x13#8 = some 0 →
        (u.ctl.mode = .setup → exec (.setModeRun w) s =
          .next { u with
            ctl := { u.ctl with mode := .run }
            link := { u.replied .setMode w (dataless .done) with
              notices := noticed u.link.notices 0 .mode none } })
        ∧ (u.ctl.mode = .run → exec (.setModeRun w) s =
          .next { u with link := u.replied .setMode w (dataless .done) })
        ∧ (u.ctl.mode = .leaving → exec (.setModeRun w) s =
          .next { u with link := u.replied .setMode w (dataless .busy) }))
      ∧ (natField fs 0x13#8 = some 1 → u.ctl.mode = .setup ∨ u.ctl.mode = .leaving →
        exec (.setModeSetup w) s = .next { u with link := u.replied .setMode w (dataless .done) })
      ∧ (∀ present : Bool, natField fs 0x13#8 = some (if present then 2 else 3) →
        let c := if present then Instr.hushOn w else Instr.hushOff w
        (u.ctl.mode = .run ∨ u.ctl.mode = .leaving → exec c s =
          .next { u with
            ctl := { u.ctl with host := present }, link := u.replied .setMode w (dataless .done) })
        ∧ (u.ctl.mode = .setup → exec c s =
          .next { u with link := u.replied .setMode w (dataless .mode) }))
      ∧ ((∀ a, natField fs 0x13#8 = some a → 3 < a) →
        exec (.setModeRun w) s = .next { u with link := u.replied .setMode w (dataless .badarg) })

/-- SET_MODE SETUP in RUN: DONE; every OPENING or LIVE route enters CLOSING with cause FORCED and without
a hold timer, FORCED is raised to each owner in opening order, and routes already CLOSING stay as they
are; the mode becomes LEAVING, or, with the table empty, SETUP at once with the HOST cause gone and a MODE
notice to lane 0; no other notice, handle or anything else changes (R43, R44, R170, R171, R189). -/
def Obligations.SetModeSetupForcesEveryRoute : Prop :=
  ∀ (s : State) (w : Window) (fs : List Field) (u : State), Admits s .setMode w fs u →
    natField fs 0x13#8 = some 1 → u.ctl.mode = .run →
    ∃ t, exec (.setModeSetup w) s = .next t
      ∧ t = { u with
          ctl := { u.ctl with mode := t.ctl.mode, host := t.ctl.host }
          table := { u.table with slots := t.table.slots }
          link := { u.replied .setMode w (dataless .done) with notices := t.link.notices } }
      ∧ (∀ i : SlotId, (t.table.slots[i]).gen = (u.table.slots[i]).gen
          ∧ t.routeAt i = (u.routeAt i).map fun r =>
              if r.state = .closing then r
              else { r with state := .closing, cause := some .forced, holdLeft := none })
      ∧ ((∃ i : SlotId, (u.routeAt i).isSome = true) →
          t.ctl.mode = .leaving ∧ t.ctl.host = u.ctl.host
          ∧ Raised u .forced
              (u.ownedBy (u.table.order.filter fun i =>
                (u.routeAt i).any fun r => decide (r.state ≠ .closing)))
              u.link.notices t.link.notices)
      ∧ ((∀ i : SlotId, u.routeAt i = none) →
          t.ctl.mode = .setup ∧ t.ctl.host = false
          ∧ t.link.notices = noticed u.link.notices 0 .mode none)

/-- The Mode Controller's millisecond event takes CRANK_N and counts the crank release timer by R173's
table; CRANK_RELEASE_TIMER_EXPIRY removes the CRANK cause; neither changes anything else. That
CRANK_N_SAMPLE is the whole event, the timer's count included, and that the expiry acts whatever time is
left, are the model's (log entries 4 and 3).
SET_CRANK_DELAY stores the delay clamped to 2000, answers ADJUSTED where the clamp changed it and
BADARG without the value, is DENIED on lanes 1 to 3, and changes nothing else, a running crank timer
included (R175). -/
def Obligations.CrankCauseAndDelay : Prop :=
  ((∀ (s : State) (asserted : Bool), s.pins.rstAsserted = false → ModeInv s →
      ∃ (crank : Bool) (timer : Option Nat),
        exec (.crankNSample asserted) s =
          .next { s with
            pins := { s.pins with crankAsserted := asserted }
            ctl := { s.ctl with crank := crank, crankTimer := timer } }
        ∧ (asserted = true → crank = true ∧ timer = none)
        ∧ (asserted = false → s.ctl.crank = false → crank = false ∧ timer = none)
        ∧ (asserted = false → s.ctl.crank = true → s.ctl.crankTimer = none →
            (s.ctl.crankDelay = 0 → crank = false ∧ timer = none)
            ∧ (s.ctl.crankDelay ≠ 0 → crank = true ∧ timer = some s.ctl.crankDelay))
        ∧ (∀ n, asserted = false → s.ctl.crankTimer = some n →
            (n = 1 → crank = false ∧ timer = none)
            ∧ (1 < n → crank = true ∧ timer = some (n - 1))))
    ∧ ∀ s : State, s.pins.rstAsserted = false → s.ctl.crankTimer.isSome = true →
        exec .crankReleaseTimerExpiry s =
          .next { s with ctl := { s.ctl with crank := false, crankTimer := none } })
  ∧ (HeadLaneOnly .setCrankDelay .setCrankDelay
    ∧ ∀ (s : State) (w : Window) (fs : List Field) (u : State), Admits s .setCrankDelay w fs u →
        (natField fs 0x12#8 = none → exec (.setCrankDelay w) s =
          .next { u with link := u.replied .setCrankDelay w (dataless .badarg) })
        ∧ ∀ v, natField fs 0x12#8 = some v → exec (.setCrankDelay w) s =
          .next { u with
            ctl := { u.ctl with crankDelay := min v 2000 }
            link := u.replied .setCrankDelay w (dataless (doneOr (2000 < v))) })

/-- POWER_ON and RST_N_RELEASE put every block at its power-on values and leave RST_N released, which after
POWER_ON is the model's choice (log entry 27); the values are those that the chapters state (R1, R6, R7, R19, R24, R53, R70, R79, R99, R110, R143, R146, R167,
R175, R192). -/
def Obligations.ResetSetsEveryBlock : Prop :=
  ∀ (lines : Lines) (s t : State),
    (exec (.powerOn lines) s = .next t ∨ exec (.rstNRelease lines) s = .next t) →
    t.pins.rstAsserted = false
    ∧ t.ctl.mode = .standby ∧ t.ctl.host = false ∧ t.ctl.crank = lines.crankAsserted
    ∧ t.ctl.crankTimer = none ∧ t.ctl.crankDelay = 300
    ∧ (t.ctl.wakeUp.isSome = true ↔ lines.wakeHigh = true)
    ∧ (∀ sp : SpeakerId, t.cabin.speakers[sp] =
        { present := false, place := .zoned 0, side := .centre, row := .middle, trim := 0,
          protMode := .report, threshold := 0, deglitch := 4 })
    ∧ (∀ z : Zone, t.cabin.zones[z] = { level := 0, mute := false, bass := 0, treble := 0, curve := none })
    ∧ t.cabin.masterLevel = -96 ∧ t.cabin.masterMute = false ∧ t.cabin.toneZone = 0
    ∧ (∀ i : SlotId, t.table.slots[i] = ⟨0#8, none⟩ ∧ t.prec.spill[i] = false) ∧ t.table.order = []
    ∧ t.table.quotas.toList = [32, 8, 8, 8]
    ∧ t.prec.duck.toList.map Vector.toList =
        [[0, 0, 0, 0, 0], [24, 0, 0, 0, 0], [48, 12, 480, 0, 0], [96, 24, 24, 0, 0],
          [480, 480, 72, 48, 0]]
    ∧ t.speed.reported = 0 ∧ t.speed.effective = 0 ∧ t.speed.freshness = .stale
    ∧ t.speed.staleTimer = none ∧ t.speed.staleTime = 500
    ∧ (∀ (c : Fin 4) (i : Fin 8), (t.speed.curves[c])[i] = ⟨150 * i.val, 0⟩)
    ∧ (∀ (sp : SpeakerId) (i : SlotId), (t.grid[sp]).cells[i] = ⟨-480, -480, false, false⟩)
    ∧ (∀ (sp : SpeakerId) (k : MixId), (t.grid[sp]).lanes[k] = none
        ∧ ((t.mixer.lanes[sp])[k]).holder = none ∧ ((t.mixer.lanes[sp])[k]).gain = 0
        ∧ ((t.mixer.lanes[sp])[k]).goal = -480 ∧ ((t.mixer.lanes[sp])[k]).frames = 48)
    ∧ t.ramps.toList = [⟨1, 1⟩, ⟨2, 2⟩, ⟨4, 4⟩, ⟨8, 8⟩, ⟨4, 16⟩, ⟨16, 16⟩, ⟨48, 48⟩, ⟨480, 480⟩]
    ∧ t.mixer.clock = .lost
    ∧ (∀ sp : SpeakerId, t.mixer.gates[sp] = true ∧ t.mixer.held[sp] = 0
        ∧ (∀ n : Fin 4, (t.eq.speakers[sp]).voicing[n] = ⟨4194304, 0, 0, 0, 0⟩)
        ∧ (t.eq.speakers[sp]).low = ⟨4194304, 0, 0, 0, 0⟩
        ∧ (t.eq.speakers[sp]).high = ⟨4194304, 0, 0, 0, 0⟩
        ∧ (∀ n : Fin 6, (t.eq.speakers[sp]).state[n] = ⟨0, 0, 0, 0⟩)
        ∧ (t.eq.speakers[sp]).lowIndex = 0 ∧ (t.eq.speakers[sp]).highIndex = 0
        ∧ (t.eq.speakers[sp]).walk = none
        ∧ t.prot.speakers[sp] = ⟨.normal, 0, none, 0, none, false⟩)
    ∧ (∀ n : Fin 25, t.eq.toneLow[n] = ⟨4194304, 0, 0, 0, 0⟩ ∧ t.eq.toneHigh[n] = ⟨4194304, 0, 0, 0, 0⟩)
    ∧ t.prot.summary = false
    ∧ (∀ port : PortId, t.prot.ports[port] = ⟨if lines.awarn[port] then .warned else .clear, none⟩)
    ∧ t.link.queue = [] ∧ t.link.capture = none ∧ t.link.laterErrors = 0 ∧ t.link.linkErr = false
    ∧ t.link.overrun = false
    ∧ ∀ lane : LaneId, t.link.limits[lane] = 64 ∧ (t.link.notices[lane]).latest = none
        ∧ ∀ k : Fin 9, (t.link.notices[lane]).kinds[k] = false

/-- The reset commands themselves: POWER_ON and RST_N_RELEASE answer a next state, whose queue and count of
free values are the model's own and stay; RST_N_ASSERT leaves ATTN_N released and every output slot at 0;
while RST_N is asserted no command but these three changes anything outside the chip-select window (R167;
that nothing acts in between is the model's reading, log entry 13). -/
def Obligations.ResetHoldsThePart : Prop :=
  (∀ (lines : Lines) (s : State),
    exec (.powerOn lines) s =
      .next { State.powerOn lines with pending := s.pending, free := s.free }
    ∧ ∃ window, exec (.rstNRelease lines) s =
        .next { State.powerOn lines with
          pending := s.pending, free := s.free
          link := { (State.powerOn lines).link with window := window } })
  ∧ (∀ s : State, ∃ t, exec .rstNAssert s = .next t
      ∧ t.pins.rstAsserted = true ∧ t.attnLow = false ∧ t.takesPackets = false
      ∧ ∀ sp : SpeakerId, t.outputSlot sp = 0#32)
  ∧ ∀ (c : Instr) (s t : State), s.pins.rstAsserted = true → exec c s = .next t →
      (∃ lines, c = .powerOn lines ∨ c = .rstNRelease lines) ∨ c = .rstNAssert
      ∨ t = { s with link := { s.link with window := t.link.window, sdo := t.link.sdo } }

/-- The rising edge of WAKE by the length of the low: below 2 µs nothing but the line's own record; from 2 µs and below 100 µs a
fault-clear pulse, which clears every speaker's protection, opens the gates and clears the summary flag
outside STANDBY, and begins a new wake-up in STANDBY. WAKE_UP begins a wake-up of 2 ms, and a low that
reaches 2 µs stops it (R163, R165, R166, R156). WAKE_FALL begins the measurement of the low (log entry
16). -/
def Obligations.WakeLowsActByTheirLength : Prop :=
  ∀ s : State, s.pins.rstAsserted = false →
    (s.ctl.wake ≠ .longLow →
      exec .wakeFall s = .next { s with ctl := { s.ctl with wake := .low } })
    ∧ (∀ ns, ns < 2000 →
      exec (.faultClearPulse ns) s = .next { s with ctl := { s.ctl with wake := .high } })
    ∧ (∀ ns, 2000 ≤ ns → ns < 100000 → s.ctl.mode ≠ .standby →
      exec (.faultClearPulse ns) s =
        .next { s with
          ctl := { s.ctl with wake := .high }
          prot := { s.prot with
            speakers := Vector.replicate 24 ⟨.normal, 0, none, 0, none, false⟩, summary := false }
          mixer := { s.mixer with gates := Vector.replicate 24 true } })
    ∧ (∀ ns, 2000 ≤ ns → ns < 100000 → s.ctl.mode = .standby →
      exec (.faultClearPulse ns) s =
        .next { s with ctl := { s.ctl with wake := .high, wakeUp := some 2 } })
    ∧ (s.ctl.mode = .standby →
      exec .wakeUp s = .next { s with ctl := { s.ctl with wake := .high, wakeUp := some 2 } })
    ∧ (s.ctl.mode = .standby → s.ctl.wakeUp.isSome = true →
      exec .wakeUpStopped s = .next { s with ctl := { s.ctl with wake := .low, wakeUp := none } })

/-- END_OF_WAKE_UP: the mode becomes SETUP, MODE is raised in lane 0's set and the 24 tone walk timers
start with 16 ms; nothing else changes (R141, R162, R165). That it acts whatever is left of the 2 ms is the
model's choice (log entry 19). That END_OF_LEAVING is also a command of its own is the model's (log entry
6). END_OF_LEAVING: in LEAVING with no route left the mode becomes SETUP, the HOST cause goes and MODE is
raised in lane 0's set; CRANK, its timer and its delay are left as they are, and so is everything
else (R171). -/
def Obligations.WakeUpAndLeavingEndInSetup : Prop :=
  (∀ s : State, s.pins.rstAsserted = false → s.ctl.mode = .standby → s.ctl.wakeUp.isSome = true →
      ∃ t, exec .endOfWakeUp s = .next t
        ∧ t = { s with
            ctl := { s.ctl with mode := .setup, wakeUp := none }
            eq := { s.eq with speakers := t.eq.speakers }
            link := { s.link with notices := noticed s.link.notices 0 .mode none } }
        ∧ ∀ sp : SpeakerId, t.eq.speakers[sp] = { s.eq.speakers[sp] with walk := some 16 })
  ∧ (∀ s : State, s.pins.rstAsserted = false → s.ctl.mode = .leaving →
      (∀ i : SlotId, s.routeAt i = none) →
      exec .endOfLeaving s =
        .next { s with
          ctl := { s.ctl with mode := .setup, host := false }
          link := { s.link with notices := noticed s.link.notices 0 .mode none } })

/-- ENTRY_TO_STANDBY outside STANDBY, as one change: routes freed with their generations kept, cells and
lanes silent, tone indices and section states 0, speeds 0 and STALE, speakers NORMAL with open gates,
ports taken from their lines, the link emptied and released, a packet window in progress abandoned and SDO
at high impedance, HOST and the crank timer gone, CRANK taken from its line; settings, curves, ramps, quotas, voicing, tone table, delays and limits kept. In STANDBY it
stops a wake-up and makes none of these effects again (R45, R78, R110, R144, R159, R163, R164, R173). -/
def Obligations.StandbyClearsAndKeeps : Prop :=
  ∀ (s : State) (crank : Bool) (awarn : Vector Bool 3), s.pins.rstAsserted = false →
    (s.ctl.mode = .standby →
      exec (.entryToStandby crank awarn) s =
        .next { s with ctl := { s.ctl with wake := .longLow, wakeUp := none } })
    ∧ (s.ctl.mode ≠ .standby → ∃ t, exec (.entryToStandby crank awarn) s = .next t
      ∧ t.ctl.mode = .standby ∧ t.ctl.host = false ∧ t.ctl.crank = crank ∧ t.ctl.crankTimer = none
      ∧ t.ctl.wakeUp = none ∧ t.ctl.crankDelay = s.ctl.crankDelay
      ∧ t.cabin = s.cabin ∧ t.prec.duck = s.prec.duck ∧ t.speed.curves = s.speed.curves
      ∧ t.speed.staleTime = s.speed.staleTime ∧ t.ramps = s.ramps ∧ t.table.quotas = s.table.quotas
      ∧ t.eq.toneLow = s.eq.toneLow ∧ t.eq.toneHigh = s.eq.toneHigh ∧ t.mixer.clock = s.mixer.clock
      ∧ t.link.limits = s.link.limits ∧ t.table.order = []
      ∧ (∀ i : SlotId, (t.table.slots[i]).gen = (s.table.slots[i]).gen ∧ t.routeAt i = none
          ∧ t.prec.spill[i] = false)
      ∧ t.speed.reported = 0 ∧ t.speed.effective = 0 ∧ t.speed.freshness = .stale
      ∧ t.speed.staleTimer = none
      ∧ (∀ sp : SpeakerId,
          (∀ i : SlotId, (t.grid[sp]).cells[i] = ⟨-480, -480, false, false⟩)
          ∧ (∀ k : MixId, (t.grid[sp]).lanes[k] = none
              ∧ ((t.mixer.lanes[sp])[k]).holder = none ∧ ((t.mixer.lanes[sp])[k]).gain = 0
              ∧ ((t.mixer.lanes[sp])[k]).goal = -480 ∧ ((t.mixer.lanes[sp])[k]).frames = 48)
          ∧ t.mixer.gates[sp] = true ∧ t.mixer.held[sp] = 0
          ∧ (∀ n : Fin 6, (t.eq.speakers[sp]).state[n] = ⟨0, 0, 0, 0⟩)
          ∧ (t.eq.speakers[sp]).voicing = (s.eq.speakers[sp]).voicing
          ∧ (t.eq.speakers[sp]).lowIndex = 0 ∧ (t.eq.speakers[sp]).highIndex = 0
          ∧ (t.eq.speakers[sp]).low = s.eq.toneLow[(12 : Fin 25)]
          ∧ (t.eq.speakers[sp]).high = s.eq.toneHigh[(12 : Fin 25)]
          ∧ (t.eq.speakers[sp]).walk = none
          ∧ t.prot.speakers[sp] = ⟨.normal, 0, none, 0, none, false⟩)
      ∧ t.prot.summary = false
      ∧ (∀ port : PortId, t.prot.ports[port] = ⟨if awarn[port] then .warned else .clear, none⟩)
      ∧ t.link.queue = [] ∧ t.link.capture = none ∧ t.link.laterErrors = 0 ∧ t.link.linkErr = false
      ∧ t.link.overrun = false
      ∧ (∀ (lane : LaneId) (k : Fin 9), (t.link.notices[lane]).latest = none
          ∧ (t.link.notices[lane]).kinds[k] = false)
      ∧ (s.link.window = .idle → t.link.window = .idle)
      ∧ (s.link.window ≠ .idle → t.link.window = .ignored) ∧ t.link.sdo = []
      ∧ t.attnLow = false)

/-! ### Settings: the Cabin Map, the duck matrix, the speed curves and the loads -/

/-- LOAD_SPEAKER in SETUP replaces the whole entry by the clamped one, answers ADJUSTED where a clamp
changed a value, and sets that speaker's overload frame counter to 0; in any other mode the answer is
MODE; nothing else changes (R4, R5). -/
def Obligations.LoadSpeakerReplacesTheEntry : Prop :=
  HeadLaneOnly .loadSpeaker .loadSpeaker
  ∧ ∀ (s : State) (w : Window) (fs : List Field) (u : State), Admits s .loadSpeaker w fs u →
    (u.ctl.mode ≠ .setup → exec (.loadSpeaker w) s =
      .next { u with link := u.replied .loadSpeaker w (dataless .mode) })
    ∧ (u.ctl.mode = .setup →
        ((natField fs 0x20#8).bind (finOf 24) = none ∨ speakerEntryField fs = none) →
        exec (.loadSpeaker w) s = .next { u with link := u.replied .loadSpeaker w (dataless .badarg) })
    ∧ ∀ (sp : SpeakerId) (present place side row trim protMode thr dgl : Byte) (pr : Bool) (pl : Place)
        (sd : Side) (rw : Row) (pm : ProtMode),
      u.ctl.mode = .setup → natField fs 0x20#8 = some sp.val →
      fieldValue fs 0x21#8 = some [present, place, side, row, trim, protMode, thr, dgl] →
      boolOfCode present.toNat = some pr → Place.ofCode place.toNat = some pl →
      Side.ofCode side.toNat = some sd → Row.ofCode row.toNat = some rw →
      ProtMode.ofCode protMode.toNat = some pm →
      ∃ t, exec (.loadSpeaker w) s = .next t
        ∧ t = { u with
            cabin := { u.cabin with speakers := t.cabin.speakers }
            prot := { u.prot with speakers := t.prot.speakers }
            link := u.replied .loadSpeaker w (dataless (doneOr
              (trim.toInt < -96 ∨ 0 < trim.toInt ∨ 96 < thr.toNat ∨ dgl.toNat < 1 ∨ 64 < dgl.toNat))) }
        ∧ t.cabin.speakers[sp] =
            { present := pr, place := pl, side := sd, row := rw, protMode := pm
              trim := max (-96) (min trim.toInt 0), threshold := min thr.toNat 96
              deglitch := max 1 (min dgl.toNat 64) }
        ∧ t.prot.speakers[sp] = { u.prot.speakers[sp] with counter := 0 }
        ∧ ∀ other : SpeakerId, other ≠ sp →
            t.cabin.speakers[other] = u.cabin.speakers[other]
            ∧ t.prot.speakers[other] = u.prot.speakers[other]

/-- SET_ZONE and SET_MASTER write each field they carry, clamped, and keep the others; the answer is
ADJUSTED where a clamp changed a value, and BADARG where no field is carried or a code names nothing;
nothing else changes (R8, R9). -/
def Obligations.ZoneAndMasterSettingsAreWritten : Prop :=
  HeadLaneOnly .setZone .setZone ∧ HeadLaneOnly .setMaster .setMaster
  ∧ (∀ (s : State) (w : Window) (fs : List Field) (u : State), Admits s .setZone w fs u →
    (((natField fs 0x22#8).bind (finOf 4) = none ∨ codeField fs 0x23#8 boolOfCode = none
        ∨ codeField fs 0x26#8 curveOfCode = none
        ∨ fieldValue fs 0x06#8 = none ∧ fieldValue fs 0x23#8 = none ∧ fieldValue fs 0x24#8 = none
          ∧ fieldValue fs 0x25#8 = none ∧ fieldValue fs 0x26#8 = none) →
      exec (.setZone w) s = .next { u with link := u.replied .setZone w (dataless .badarg) })
    ∧ ∀ (z : Zone) (mute : Option Bool) (curve : Option (Option (Fin 4))),
      natField fs 0x22#8 = some z.val → codeField fs 0x23#8 boolOfCode = some mute →
      codeField fs 0x26#8 curveOfCode = some curve →
      ((fieldValue fs 0x06#8).isSome = true ∨ mute.isSome = true ∨ (fieldValue fs 0x24#8).isSome = true
        ∨ (fieldValue fs 0x25#8).isSome = true ∨ curve.isSome = true) →
      ∃ (t : State) (zones : Vector ZoneSetting 4) (r : Result), exec (.setZone w) s = .next t
        ∧ t = { u with
            cabin := { u.cabin with zones := zones }, link := u.replied .setZone w (dataless r) }
        ∧ zones[z] =
            { level := ((intField fs 0x06#8).map fun x => max (-480) (min x 0)).getD (u.cabin.zones[z]).level
              mute := mute.getD (u.cabin.zones[z]).mute
              bass := ((intField fs 0x24#8).map fun x => max (-12) (min x 12)).getD (u.cabin.zones[z]).bass
              treble :=
                ((intField fs 0x25#8).map fun x => max (-12) (min x 12)).getD (u.cabin.zones[z]).treble
              curve := curve.getD (u.cabin.zones[z]).curve }
        ∧ (∀ other : Zone, other ≠ z → zones[other] = u.cabin.zones[other])
        ∧ (r = .done ∨ r = .adjusted)
        ∧ (r = .adjusted ↔
            (∃ x, intField fs 0x06#8 = some x ∧ (x < -480 ∨ 0 < x))
            ∨ (∃ x, intField fs 0x24#8 = some x ∧ (x < -12 ∨ 12 < x))
            ∨ ∃ x, intField fs 0x25#8 = some x ∧ (x < -12 ∨ 12 < x)))
  ∧ ∀ (s : State) (w : Window) (fs : List Field) (u : State), Admits s .setMaster w fs u →
    ((codeField fs 0x23#8 boolOfCode = none ∨ codeField fs 0x27#8 (finOf 4) = none
        ∨ fieldValue fs 0x06#8 = none ∧ fieldValue fs 0x23#8 = none ∧ fieldValue fs 0x27#8 = none) →
      exec (.setMaster w) s = .next { u with link := u.replied .setMaster w (dataless .badarg) })
    ∧ ∀ (mute : Option Bool) (zone : Option Zone),
      codeField fs 0x23#8 boolOfCode = some mute → codeField fs 0x27#8 (finOf 4) = some zone →
      ((fieldValue fs 0x06#8).isSome = true ∨ mute.isSome = true ∨ zone.isSome = true) →
      ∃ r : Result, exec (.setMaster w) s =
          .next { u with
            cabin := { u.cabin with
              masterLevel :=
                ((intField fs 0x06#8).map fun x => max (-480) (min x 0)).getD u.cabin.masterLevel
              masterMute := mute.getD u.cabin.masterMute
              toneZone := zone.getD u.cabin.toneZone }
            link := u.replied .setMaster w (dataless r) }
        ∧ (r = .done ∨ r = .adjusted)
        ∧ (r = .adjusted ↔ ∃ x, intField fs 0x06#8 = some x ∧ (x < -480 ∨ 0 < x))

/-- LOAD_DUCK replaces the five entries of the named aggressor row by the clamped attenuations, the ALERT
column by 0, and leaves the other rows and everything else alone; the answer is ADJUSTED where an
attenuation was above 480 or the ALERT one was not 0, BADARG without a class or the attenuations, DENIED on
lanes 1 to 3, and no packet is taken in STANDBY (R54). -/
def Obligations.LoadDuckReplacesOneRow : Prop :=
  HeadLaneOnly .loadDuck .loadDuck
  ∧ (∀ (s : State) (w : Window), s.ctl.mode = .standby →
      exec (.loadDuck w) s = .next { s with link := { s.link with window := .idle, sdo := [] } })
  ∧ ∀ (s : State) (w : Window) (fs : List Field) (u : State), Admits s .loadDuck w fs u →
    (((natField fs 0x02#8).bind RouteClass.ofCode = none ∨ fieldValue fs 0x30#8 = none) →
      exec (.loadDuck w) s = .next { u with link := u.replied .loadDuck w (dataless .badarg) })
    ∧ ∀ (cls : RouteClass) (b0 b1 b2 b3 b4 b5 b6 b7 b8 b9 : Byte),
      natField fs 0x02#8 = some cls.code →
      fieldValue fs 0x30#8 = some [b0, b1, b2, b3, b4, b5, b6, b7, b8, b9] →
      let media := (b1 ++ b0).toNat
      let chime := (b3 ++ b2).toNat
      let guide := (b5 ++ b4).toNat
      let call := (b7 ++ b6).toNat
      let alert := (b9 ++ b8).toNat
      ∃ duck : Vector (Vector Nat 5) 5, exec (.loadDuck w) s =
          .next { u with
            prec := { u.prec with duck := duck }
            link := u.replied .loadDuck w (dataless (doneOr
              (480 < media ∨ 480 < chime ∨ 480 < guide ∨ 480 < call ∨ alert ≠ 0))) }
        ∧ duck[cls.index] = #v[min media 480, min chime 480, min guide 480, min call 480, 0]
        ∧ ∀ other : RouteClass, other ≠ cls → duck[other.index] = u.prec.duck[other.index]

/-- LOAD_RAMP replaces both rates of the named profile by the rates clamped to 1..480 and leaves the other
profiles and everything else alone; the answer is ADJUSTED where a clamp changed a rate, BADARG without
the profile or a rate, DENIED on lanes 1 to 3, and no packet is taken in STANDBY (R100). -/
def Obligations.LoadRampReplacesOneProfile : Prop :=
  HeadLaneOnly .loadRamp .loadRamp
  ∧ (∀ (s : State) (w : Window), s.ctl.mode = .standby →
      exec (.loadRamp w) s = .next { s with link := { s.link with window := .idle, sdo := [] } })
  ∧ ∀ (s : State) (w : Window) (fs : List Field) (u : State), Admits s .loadRamp w fs u →
    ((natField fs 0x33#8 = none ∨ natField fs 0x34#8 = none ∨ natField fs 0x09#8 = none
        ∨ ∃ p, natField fs 0x09#8 = some p ∧ 7 < p) →
      exec (.loadRamp w) s = .next { u with link := u.replied .loadRamp w (dataless .badarg) })
    ∧ ∀ (p : Fin 8) (rise fall : Nat), natField fs 0x09#8 = some p.val →
      natField fs 0x33#8 = some rise → natField fs 0x34#8 = some fall →
      ∃ ramps : Vector RampProfile 8, exec (.loadRamp w) s =
          .next { u with
            ramps := ramps
            link := u.replied .loadRamp w (dataless (doneOr
              (rise < 1 ∨ 480 < rise ∨ fall < 1 ∨ 480 < fall))) }
        ∧ ramps[p] = ⟨((max 1 (min rise 480) : Nat) : Int), ((max 1 (min fall 480) : Nat) : Int)⟩
        ∧ ∀ other : Fin 8, other ≠ p → ramps[other] = u.ramps[other]

/-- SET_QUOTA, LOAD_TONE and LOAD_VOICING are answered MODE outside SETUP; in SETUP each writes the one
entry it names and answers DONE (SET_QUOTA: ADJUSTED above 32), or is answered BADARG when a field is
missing or names nothing (a lane above 3, a speaker above 23, a shelf that is neither LOW nor HIGH, a tone
index outside -12..+12); nothing else changes (R25, R137, R138). -/
def Obligations.SetupLoadsWriteTheirEntry : Prop :=
  HeadLaneOnly .setQuota .setQuota ∧ HeadLaneOnly .loadTone .loadTone
  ∧ HeadLaneOnly .loadVoicing .loadVoicing
  ∧ (∀ (s : State) (w : Window) (fs : List Field) (u : State), Admits s .setQuota w fs u →
    (u.ctl.mode ≠ .setup → exec (.setQuota w) s =
      .next { u with link := u.replied .setQuota w (dataless .mode) })
    ∧ (u.ctl.mode = .setup →
        (natField fs 0x14#8 = none ∨ natField fs 0x15#8 = none
          ∨ ∃ n, natField fs 0x14#8 = some n ∧ 3 < n) →
      exec (.setQuota w) s = .next { u with link := u.replied .setQuota w (dataless .badarg) })
    ∧ ∀ (lane : LaneId) (q : Nat), u.ctl.mode = .setup → natField fs 0x14#8 = some lane.val →
      natField fs 0x15#8 = some q →
      ∃ quotas : Vector Nat 4, exec (.setQuota w) s =
          .next { u with
            table := { u.table with quotas := quotas }
            link := u.replied .setQuota w (dataless (doneOr (32 < q))) }
        ∧ quotas[lane] = min q 32 ∧ ∀ other : LaneId, other ≠ lane → quotas[other] = u.table.quotas[other])
  ∧ (∀ (s : State) (w : Window) (fs : List Field) (u : State), Admits s .loadTone w fs u →
    (u.ctl.mode ≠ .setup → exec (.loadTone w) s =
      .next { u with link := u.replied .loadTone w (dataless .mode) })
    ∧ (u.ctl.mode = .setup →
        (natField fs 0x35#8 = none ∨ intField fs 0x36#8 = none ∨ fieldValue fs 0x37#8 = none
          ∨ (∃ n, natField fs 0x35#8 = some n ∧ 1 < n)
          ∨ ∃ x, intField fs 0x36#8 = some x ∧ (x < -12 ∨ 12 < x)) →
      exec (.loadTone w) s = .next { u with link := u.replied .loadTone w (dataless .badarg) })
    ∧ ∀ (high : Bool) (index : Int) (bs : List Byte), u.ctl.mode = .setup →
      natField fs 0x35#8 = some (if high then 1 else 0) → intField fs 0x36#8 = some index →
      -12 ≤ index → index ≤ 12 → fieldValue fs 0x37#8 = some bs →
      ∃ low' high' : Vector Coeffs 25, exec (.loadTone w) s =
          .next { u with
            eq := { u.eq with toneLow := low', toneHigh := high' }
            link := u.replied .loadTone w (dataless .done) }
        ∧ ∀ n : Fin 25,
            low'[n] = (if high = false ∧ (n.val : Int) = index + 12 then coeffsOf bs else u.eq.toneLow[n])
            ∧ high'[n] =
              (if high = true ∧ (n.val : Int) = index + 12 then coeffsOf bs else u.eq.toneHigh[n]))
  ∧ ∀ (s : State) (w : Window) (fs : List Field) (u : State), Admits s .loadVoicing w fs u →
    (u.ctl.mode ≠ .setup → exec (.loadVoicing w) s =
      .next { u with link := u.replied .loadVoicing w (dataless .mode) })
    ∧ (u.ctl.mode = .setup →
        (natField fs 0x20#8 = none ∨ fieldValue fs 0x38#8 = none
          ∨ ∃ n, natField fs 0x20#8 = some n ∧ 23 < n) →
      exec (.loadVoicing w) s = .next { u with link := u.replied .loadVoicing w (dataless .badarg) })
    ∧ ∀ (sp : SpeakerId) (bs : List Byte), u.ctl.mode = .setup → natField fs 0x20#8 = some sp.val →
      fieldValue fs 0x38#8 = some bs →
      ∃ speakers : Vector SpeakerEq 24, exec (.loadVoicing w) s =
          .next { u with
            eq := { u.eq with speakers := speakers }
            link := u.replied .loadVoicing w (dataless .done) }
        ∧ speakers[sp] = { u.eq.speakers[sp] with voicing := (speakers[sp]).voicing }
        ∧ (∀ n : Fin 4, ((speakers[sp]).voicing)[n] = coeffsOf (bs.drop (15 * n.val)))
        ∧ ∀ other : SpeakerId, other ≠ sp → speakers[other] = u.eq.speakers[other]

/-! ### The Speed Monitor -/

/-- SPEED from any lane: a valid value is stored clamped to 1200, the state becomes FRESH and the stale
timer starts afresh with the stale time; 65535 makes the state STALE at once, with a STALE notice to lane
0 if it was FRESH; the effective speed never moves here (R71, R72, R73). SET_STALE stores the clamped
stale time and leaves a running timer alone (R75). -/
def Obligations.SpeedReportsAndStaleTime : Prop :=
  HeadLaneOnly .setStale .setStale
  ∧ (∀ (s : State) (w : Window) (fs : List Field) (u : State), Admits s .speed w fs u →
    (natField fs 0x10#8 = none →
      exec (.speed w) s = .next { u with link := u.replied .speed w (dataless .badarg) })
    ∧ (∀ v, natField fs 0x10#8 = some v → v ≠ 65535 →
      exec (.speed w) s =
        .next { u with
          speed := { u.speed with
            reported := min v 1200, freshness := .fresh, staleTimer := some u.speed.staleTime }
          link := u.replied .speed w (dataless (doneOr (1200 < v))) })
    ∧ (natField fs 0x10#8 = some 65535 → u.speed.freshness = .fresh →
      exec (.speed w) s =
        .next { u with
          speed := { u.speed with freshness := .stale, staleTimer := none }
          link := { u.replied .speed w (dataless .done) with
            notices := noticed u.link.notices 0 .stale none } })
    ∧ (natField fs 0x10#8 = some 65535 → u.speed.freshness = .stale →
      exec (.speed w) s = .next { u with link := u.replied .speed w (dataless .done) }))
  ∧ ∀ (s : State) (w : Window) (fs : List Field) (u : State), Admits s .setStale w fs u →
    (natField fs 0x11#8 = none →
      exec (.setStale w) s = .next { u with link := u.replied .setStale w (dataless .badarg) })
    ∧ ∀ v, natField fs 0x11#8 = some v → exec (.setStale w) s =
        .next { u with
          speed := { u.speed with staleTime := max 100 (min v 2000) }
          link := u.replied .setStale w (dataless (doneOr (v < 100 ∨ 2000 < v))) }

/-- LOAD_CURVE replaces the eight points of the named curve, gains clamped to 0..72, and leaves the others
alone; it is answered BADARG, changing nothing, without the curve or the points, above curve 3, with a
speed above 1200 or with speeds that do not rise strictly (R80). -/
def Obligations.LoadCurveReplacesOneCurve : Prop :=
  HeadLaneOnly .loadCurve .loadCurve
  ∧ ∀ (s : State) (w : Window) (fs : List Field) (u : State), Admits s .loadCurve w fs u →
    ((fieldValue fs 0x31#8 = none ∨ fieldValue fs 0x32#8 = none
        ∨ (∃ c, natField fs 0x31#8 = some c ∧ 3 < c)) →
      exec (.loadCurve w) s = .next { u with link := u.replied .loadCurve w (dataless .badarg) })
    ∧ ∀ (bs : List Byte), fieldValue fs 0x32#8 = some bs → bs.length = 24 →
      let speed (i : Fin 8) : Nat := ((bs.getD (3 * i.val + 1) 0#8) ++ (bs.getD (3 * i.val) 0#8)).toNat
      let gain (i : Fin 8) : Int := (bs.getD (3 * i.val + 2) 0#8).toInt
      (((∃ i : Fin 8, 1200 < speed i) ∨ ∃ i j : Fin 8, i < j ∧ speed j ≤ speed i) →
        exec (.loadCurve w) s = .next { u with link := u.replied .loadCurve w (dataless .badarg) })
      ∧ ∀ c : Fin 4, natField fs 0x31#8 = some c.val → (∀ i : Fin 8, speed i ≤ 1200) →
        (∀ i j : Fin 8, i < j → speed i < speed j) →
        ∃ (curves : Vector (Vector CurvePoint 8) 4) (r : Result), exec (.loadCurve w) s =
            .next { u with
              speed := { u.speed with curves := curves }, link := u.replied .loadCurve w (dataless r) }
          ∧ (∀ i : Fin 8, (curves[c])[i] = ⟨speed i, max 0 (min (gain i) 72)⟩)
          ∧ (∀ other : Fin 4, other ≠ c → curves[other] = u.speed.curves[other])
          ∧ (r = .done ∨ r = .adjusted)
          ∧ (r = .adjusted ↔ ∃ i : Fin 8, gain i < 0 ∨ 72 < gain i)

/-- The Speed Monitor's millisecond event: while FRESH the effective speed moves one unit toward the
reported speed; then the stale timer counts, and at 0 the state becomes STALE with a STALE notice to lane
0, the effective speed held; nothing else changes (R74, R76). STALE_TIMER_EXPIRY is that expiry alone, and
does nothing while more than 1 ms is left, as after a report that restarted the timer (R77), or with the
timer stopped. That SLEW_STEP is the whole event, the timer's count included, and that the expiry is also a
command of its own, are the model's (log entries 4 and 3). -/
def Obligations.EffectiveSpeedSlewsWhileFresh : Prop :=
  (∀ s : State, s.pins.rstAsserted = false → SpeedInv s →
    ∃ v : Nat,
      (s.speed.freshness = .stale → v = s.speed.effective)
      ∧ (s.speed.freshness = .fresh → s.speed.effective < s.speed.reported → v = s.speed.effective + 1)
      ∧ (s.speed.freshness = .fresh → s.speed.reported < s.speed.effective → v + 1 = s.speed.effective)
      ∧ (s.speed.freshness = .fresh → s.speed.effective = s.speed.reported → v = s.speed.effective)
      ∧ (s.speed.staleTimer = none →
          exec .slewStep s = .next { s with speed := { s.speed with effective := v } })
      ∧ (s.speed.staleTimer = some 1 →
          exec .slewStep s =
            .next { s with
              speed := { s.speed with effective := v, freshness := .stale, staleTimer := none }
              link := { s.link with notices := noticed s.link.notices 0 .stale none } })
      ∧ ∀ n, s.speed.staleTimer = some n → 1 < n →
          exec .slewStep s =
            .next { s with speed := { s.speed with effective := v, staleTimer := some (n - 1) } })
  ∧ ∀ s : State, s.pins.rstAsserted = false →
      (s.speed.freshness = .fresh → s.speed.staleTimer = some 1 →
        exec .staleTimerExpiry s =
          .next { s with
            speed := { s.speed with freshness := .stale, staleTimer := none }
            link := { s.link with notices := noticed s.link.notices 0 .stale none } })
      ∧ ((∀ n, s.speed.staleTimer = some n → 1 < n) → exec .staleTimerExpiry s = .next s)

/-- The evaluation of a curve of strictly rising speeds: below its first point the first gain, from its
last point the last gain, and between two points the straight line between them, its quotient rounded to
nearest, half away from zero; the result lies between the two gains, and so within 0..72 (R82). -/
def Obligations.CurvesInterpolateBetweenPoints : Prop :=
  ∀ (curve : Vector CurvePoint 8) (v : Nat),
    (∀ i j : Fin 8, i < j → (curve[i]).speed < (curve[j]).speed) →
    (v ≤ (curve[(0 : Fin 8)]).speed → evalCurve curve v = (curve[(0 : Fin 8)]).gain)
    ∧ ((curve[(7 : Fin 8)]).speed ≤ v → evalCurve curve v = (curve[(7 : Fin 8)]).gain)
    ∧ ((∀ i : Fin 8, 0 ≤ (curve[i]).gain ∧ (curve[i]).gain ≤ 72) → 0 ≤ evalCurve curve v ∧ evalCurve curve v ≤ 72)
    ∧ ∀ i j : Fin 8, j.val = i.val + 1 → (curve[i]).speed ≤ v → v < (curve[j]).speed →
        ∃ q : Int, evalCurve curve v = (curve[i]).gain + q
          ∧ (let n := ((curve[j]).gain - (curve[i]).gain) * ((v : Int) - (curve[i]).speed)
             let d := ((curve[j]).speed : Int) - (curve[i]).speed
             |2 * (q * d - n)| ≤ d ∧ (|2 * (q * d - n)| = d → |n| < |q * d|))
          ∧ min (curve[i]).gain (curve[j]).gain ≤ evalCurve curve v
          ∧ evalCurve curve v ≤ max (curve[i]).gain (curve[j]).gain

/-! ### Routes -/

/-- OPEN in RUN, with every field in order, quota left and space, takes the lowest FREE slot: generation
raised by one (255 becomes 1), the record filled as R34 says with level and placement clamped, the slot
at the end of the opening order list, the spill flag clear, the answer the handle; nothing else changes.
Otherwise it is answered MODE, BADARG (a field missing, a code that names nothing, or STEREO on source 15),
QUOTA or FULL, in that order, and changes nothing (R22, R23, R24, R26, R32, R33, R34). -/
def Obligations.OpenTakesTheLowestFreeSlot : Prop :=
  ∀ (s : State) (w : Window) (fs : List Field) (u : State), Admits s .openRoute w fs u →
    (u.ctl.mode ≠ .run →
      exec (.openRoute w) s = .next { u with link := u.replied .openRoute w (dataless .mode) })
    ∧ (u.ctl.mode = .run →
      ((natField fs 0x02#8).bind RouteClass.ofCode = none ∨ (natField fs 0x03#8).bind (finOf 16) = none
        ∨ (natField fs 0x04#8).bind Width.ofCode = none ∨ (natField fs 0x05#8).bind zonesOfCode = none
        ∨ intField fs 0x06#8 = none ∨ (natField fs 0x08#8).bind boolOfCode = none
        ∨ (natField fs 0x09#8).bind (finOf 8) = none ∨ placementField fs = none
        ∨ (natField fs 0x04#8 = some Width.stereo.code ∧ natField fs 0x03#8 = some 15)) →
      exec (.openRoute w) s = .next { u with link := u.replied .openRoute w (dataless .badarg) })
    ∧ ∀ (cls : RouteClass) (source : Fin 16) (width : Width) (zones : ZoneSet) (level : Int)
        (followsSpeed : Bool) (ramp : Fin 8) (place : PlacementArg) (hold : Nat),
      u.ctl.mode = .run →
      natField fs 0x02#8 = some cls.code → natField fs 0x03#8 = some source.val →
      natField fs 0x04#8 = some width.code → (natField fs 0x05#8).bind zonesOfCode = some zones →
      intField fs 0x06#8 = some level → (natField fs 0x08#8).bind boolOfCode = some followsSpeed →
      natField fs 0x09#8 = some ramp.val → placementField fs = some place →
      (natField fs 0x0A#8).getD 0 = hold → ¬(width = .stereo ∧ source = 15) →
      let owned := (List.finRange 32).countP fun i => (u.routeAt i).any fun r => decide (r.owner = w.lane)
      let count := (List.finRange 32).countP fun i => (u.routeAt i).isSome
      (u.table.quotas[w.lane] ≤ owned →
        exec (.openRoute w) s = .next { u with link := u.replied .openRoute w (dataless .quota) })
      ∧ (owned < u.table.quotas[w.lane] → (if cls = .alert then 32 else 30) ≤ count →
        exec (.openRoute w) s = .next { u with link := u.replied .openRoute w (dataless .full) })
      ∧ ∀ i : SlotId, owned < u.table.quotas[w.lane] → count < (if cls = .alert then 32 else 30) →
        u.routeAt i = none → (∀ j : SlotId, j < i → (u.routeAt j).isSome = true) →
        4 ≤ u.link.limits[w.lane] →
        let gen := if (u.table.slots[i]).gen = 255#8 then 1#8 else (u.table.slots[i]).gen + 1#8
        let clamped : Prop := level < -480 ∨ 0 < level ∨ ∃ p, place = .placed p true
        ∃ (t : State) (r : Result), exec (.openRoute w) s = .next t
          ∧ t = { u with
              table := { u.table with slots := t.table.slots, order := u.table.order ++ [i] }
              prec := { u.prec with spill := t.prec.spill }
              link := u.replied .openRoute w [r.code, 0#8, byte i.val, gen] }
          ∧ t.table.slots[i] =
              ⟨gen, some
                { owner := w.lane, cls, source, width, zones, followsSpeed, ramp
                  level := max (-480) (min level 0)
                  placement := (match place with | .placed p _ => some p | _ => none)
                  holdTime := if hold = 0 then none else some hold
                  state := .opening, cause := none
                  holdLeft := if hold = 0 then none else some hold }⟩
          ∧ t.prec.spill[i] = false
          ∧ (∀ j : SlotId, j ≠ i →
              t.table.slots[j] = u.table.slots[j] ∧ t.prec.spill[j] = u.prec.spill[j])
          ∧ (clamped → r = .adjusted) ∧ (¬clamped → r = .done)

/-- A handle is accepted while its slot holds a route and its generation is the slot's and not 0; ADJUST,
CLOSE and QUERY with any other handle, whatever else they carry, are answered STALE and change
nothing (R21). -/
def Obligations.HandlesAreAcceptedByGeneration : Prop :=
  (∀ (s : State) (n : Nat) (gen : BitVec 8) (i : SlotId) (r : Route),
    s.slotOf (some (n, gen)) = some (i, r) ↔
      i.val = n ∧ s.routeAt i = some r ∧ gen = (s.handleAt i).gen ∧ gen ≠ 0#8)
  ∧ (∀ (s : State) (w : Window) (fs : List Field) (u : State), Admits s .adjust w fs u →
      u.slotOf (handleField fs) = none →
      exec (.adjust w) s = .next { u with link := u.replied .adjust w (dataless .stale) })
  ∧ (∀ (s : State) (w : Window) (fs : List Field) (u : State), Admits s .close w fs u →
      u.slotOf (handleField fs) = none →
      exec (.close w) s = .next { u with link := u.replied .close w (dataless .stale) })
  ∧ ∀ (s : State) (w : Window) (fs : List Field) (u : State), Admits s .query w fs u →
      u.slotOf (handleField fs) = none →
      exec (.query w) s = .next { u with link := u.replied .query w (dataless .stale) }

/-- ADJUST on a route of the lane, or from lane 0 on any: each field it carries is changed, level and
placement clamped, a hold time of 0 removing the hold; the others and the route's state are kept, and
nothing else changes. It is answered DENIED to another lane, LATE on a CLOSING route, and BADARG without a
field or with a code that names nothing, in that order (R35, R36, R37). -/
def Obligations.AdjustChangesTheFieldsItCarries : Prop :=
  ∀ (s : State) (w : Window) (fs : List Field) (u : State) (i : SlotId) (r : Route),
    Admits s .adjust w fs u → u.slotOf (handleField fs) = some (i, r) →
    (w.lane ≠ r.owner → w.lane ≠ 0 →
      exec (.adjust w) s = .next { u with link := u.replied .adjust w (dataless .denied) })
    ∧ ((w.lane = r.owner ∨ w.lane = 0) → r.state = .closing →
      exec (.adjust w) s = .next { u with link := u.replied .adjust w (dataless .late) })
    ∧ ((w.lane = r.owner ∨ w.lane = 0) → r.state ≠ .closing →
      (codeField fs 0x05#8 zonesOfCode = none ∨ placementField fs = none
        ∨ codeField fs 0x08#8 boolOfCode = none ∨ codeField fs 0x09#8 (finOf 8) = none
        ∨ ∀ tag ∈ [0x05#8, 0x06#8, 0x07#8, 0x08#8, 0x09#8, 0x0A#8], fieldValue fs tag = none) →
      exec (.adjust w) s = .next { u with link := u.replied .adjust w (dataless .badarg) })
    ∧ ∀ (zones : Option ZoneSet) (place : PlacementArg) (followsSpeed : Option Bool)
        (ramp : Option (Fin 8)),
      (w.lane = r.owner ∨ w.lane = 0) → r.state ≠ .closing →
      codeField fs 0x05#8 zonesOfCode = some zones → placementField fs = some place →
      codeField fs 0x08#8 boolOfCode = some followsSpeed → codeField fs 0x09#8 (finOf 8) = some ramp →
      (∃ tag ∈ [0x05#8, 0x06#8, 0x07#8, 0x08#8, 0x09#8, 0x0A#8], (fieldValue fs tag).isSome = true) →
      let hold (old : Option Nat) : Option Nat :=
        match natField fs 0x0A#8 with
        | none => old
        | some n => if n = 0 then none else some n
      ∃ result : Result, exec (.adjust w) s =
          .next (withRoute u i
            { r with
              level := ((intField fs 0x06#8).map fun x => max (-480) (min x 0)).getD r.level
              placement := (match place with
                | .absent => r.placement
                | .removal => none
                | .placed p _ => some p)
              zones := zones.getD r.zones
              followsSpeed := followsSpeed.getD r.followsSpeed
              ramp := ramp.getD r.ramp
              holdTime := hold r.holdTime
              holdLeft := hold r.holdLeft }
            (u.replied .adjust w (dataless result)))
        ∧ (result = .done ∨ result = .adjusted)
        ∧ (result = .adjusted ↔
            (∃ x, intField fs 0x06#8 = some x ∧ (x < -480 ∨ 0 < x)) ∨ ∃ p, place = .placed p true)

/-- CLOSE: an OPENING or LIVE route enters CLOSING with cause CUT or REQUEST by the flag and without a
hold timer; on a CLOSING route only the cut flag acts, and makes the cause CUT; the answer is DONE, or
DENIED to a lane neither 0 nor the owner, or BADARG without a sound flag; nothing else changes (R30, R38,
R39). That a CLOSE without a sound flag is answered BADARG on a CLOSING route too, by R38's check, and not
DONE by R39, is the model's choice (log entry 29). -/
def Obligations.CloseStartsOrCutsTheFade : Prop :=
  ∀ (s : State) (w : Window) (fs : List Field) (u : State) (i : SlotId) (r : Route),
    Admits s .close w fs u → u.slotOf (handleField fs) = some (i, r) →
    (w.lane ≠ r.owner → w.lane ≠ 0 →
      exec (.close w) s = .next { u with link := u.replied .close w (dataless .denied) })
    ∧ ((w.lane = r.owner ∨ w.lane = 0) → (∀ n, natField fs 0x0B#8 = some n → 1 < n) →
      exec (.close w) s = .next { u with link := u.replied .close w (dataless .badarg) })
    ∧ ∀ cut : Bool, (w.lane = r.owner ∨ w.lane = 0) →
      natField fs 0x0B#8 = some (if cut then 1 else 0) →
      (r.state ≠ .closing → exec (.close w) s =
        .next (withRoute u i
          { r with
            state := .closing, cause := some (if cut then .cut else .request), holdLeft := none }
          (u.replied .close w (dataless .done))))
      ∧ (r.state = .closing → cut = true → exec (.close w) s =
        .next (withRoute u i { r with cause := some .cut } (u.replied .close w (dataless .done))))
      ∧ (r.state = .closing → cut = false → exec (.close w) s =
        .next { u with link := u.replied .close w (dataless .done) })

/-- QUERY answers DONE with the route's record, its hold remaining, effective zones, spill flag, lanes held,
cells waiting and place in the list, where the bytes 0, 0, 0 for an absent placement are the model's (log
entry 24); LIST answers DONE with the number of routes and the opening order list
from the offset on. Both are cut at the lane's limit and change nothing (R46, R47, R48, R49). -/
def Obligations.QueryAndListReportTheTable : Prop :=
  (∀ (s : State) (w : Window) (fs : List Field) (u : State) (i : SlotId) (r : Route),
    Admits s .query w fs u → u.slotOf (handleField fs) = some (i, r) →
    let items : List (List Byte) :=
      [ [byte i.val, (u.handleAt i).gen], [byte r.owner.val], [byte r.cls.code],
        [byte r.source.val], [byte r.width.code], [byte r.zones.toNat], leInt16 r.level,
        (match r.placement with
          | some p => [1#8, BitVec.ofInt 8 p.balance, BitVec.ofInt 8 p.fade]
          | none => [0#8, 0#8, 0#8]),
        [flagByte r.followsSpeed], [byte r.ramp.val], le16 (r.holdTime.getD 0), [byte r.state.code],
        [causeByte r.cause], le16 (r.holdLeft.getD 0),
        [byte (if u.prec.spill[i] then 15 else r.zones.toNat)], [flagByte u.prec.spill[i]],
        [byte ((List.finRange 24).countP fun sp => (u.grid[sp]).holds i)],
        [byte ((List.finRange 24).countP fun sp => ((u.grid[sp]).cells[i]).waiting)],
        [byte (u.table.order.idxOf i)] ]
    let payload := (Answer.mk .done items).payload u.link.limits[w.lane]
    exec (.query w) s = .next { u with link := u.replied .query w payload })
  ∧ ∀ (s : State) (w : Window) (fs : List Field) (u : State), Admits s .list w fs u → TableInv u →
    (natField fs 0x0C#8 = none →
      exec (.list w) s = .next { u with link := u.replied .list w (dataless .badarg) })
    ∧ ∀ offset, natField fs 0x0C#8 = some offset →
      ∃ (entries : List (List Byte)) (payload : List Byte),
        exec (.list w) s = .next { u with link := u.replied .list w payload }
        ∧ payload = (Answer.mk .done ([byte u.table.order.length] :: entries)).payload
            u.link.limits[w.lane]
        ∧ entries.length = u.table.order.length - offset
        ∧ ∀ (n : Nat) (i : SlotId) (r : Route), u.table.order[offset + n]? = some i →
            u.routeAt i = some r →
            entries[n]? = some
              [byte i.val, (u.handleAt i).gen, byte r.owner.val, byte r.cls.code, byte r.state.code]

/-- The Route Table's millisecond event counts every running hold timer by one; a route whose remaining time
reaches 0 enters CLOSING with cause EXPIRED, and EXPIRED is raised to each owner in opening order; no other
notice, handle or anything else changes (R30, R40, R189). HOLD_TIMER_EXPIRY is that expiry of one route; it
does nothing while more than 1 ms is left, as after an ADJUST that restarted the timer (R42), with the timer
stopped, or on a FREE slot. That the expiry is also a command of its own, and that the millisecond event is
the whole event, are the model's (log entries 3 and 4). -/
def Obligations.HoldTimersExpireIntoClosing : Prop :=
  (∀ s : State, s.pins.rstAsserted = false → TableInv s →
    ∃ t, exec .routeTableMillisecondEvent s = .next t
      ∧ t = { s with
          table := { s.table with slots := t.table.slots }
          link := { s.link with notices := t.link.notices } }
      ∧ (∀ i : SlotId, (t.table.slots[i]).gen = (s.table.slots[i]).gen
          ∧ t.routeAt i = (s.routeAt i).map fun r =>
              if r.holdLeft = some 1 then
                { r with state := .closing, cause := some .expired, holdLeft := none }
              else { r with holdLeft := r.holdLeft.map (· - 1) })
      ∧ Raised s .expired
          (s.ownedBy (s.table.order.filter fun i =>
            (s.routeAt i).any fun r => decide (r.holdLeft = some 1)))
          s.link.notices t.link.notices)
  ∧ ∀ (s : State) (i : SlotId), s.pins.rstAsserted = false →
      (s.routeAt i = none → exec (.holdTimerExpiry i) s = .next s)
      ∧ ∀ r : Route, s.routeAt i = some r →
        (r.holdLeft = some 1 →
          exec (.holdTimerExpiry i) s =
            .next (withRoute s i { r with state := .closing, cause := some .expired, holdLeft := none }
              { s.link with notices := noticed s.link.notices r.owner .expired (some (s.handleAt i)) }))
        ∧ ((∀ n, r.holdLeft = some n → 1 < n) → exec (.holdTimerExpiry i) s = .next s)

/-- PASS_REPORT: an OPENING route named settled becomes LIVE; a CLOSING route named silent is freed, its
generation kept, its place in the list and its spill flag gone, FREED raised to each owner in opening
order; every other handle is passed over; with the last route of LEAVING freed, the mode becomes SETUP, HOST
goes and MODE is raised to lane 0. No other notice, handle or anything else changes, and with no report to
take nothing does (R28, R29, R31, R44, R63, R189). -/
def Obligations.ReportsSettleAndFreeRoutes : Prop :=
  (∀ s : State, s.table.report = none → exec .passReport s = .next s)
  ∧ ∀ (s : State) (rep : PassReport), s.pins.rstAsserted = false → TableInv s →
    s.table.report = some rep →
    ∃ t, exec .passReport s = .next t
      ∧ t = { s with
          ctl := { s.ctl with mode := t.ctl.mode, host := t.ctl.host }
          table := { s.table with slots := t.table.slots, order := t.table.order, report := none }
          prec := { s.prec with spill := t.prec.spill }
          link := { s.link with notices := t.link.notices } }
      ∧ (∀ i : SlotId, (t.table.slots[i]).gen = (s.table.slots[i]).gen
          ∧ (s.routeAt i = none → t.routeAt i = none ∧ t.prec.spill[i] = s.prec.spill[i])
          ∧ ∀ r, s.routeAt i = some r →
              (r.state = .opening → s.handleAt i ∈ rep.settled →
                t.routeAt i = some { r with state := .live } ∧ t.prec.spill[i] = s.prec.spill[i])
              ∧ (r.state = .closing → s.handleAt i ∈ rep.silent →
                t.routeAt i = none ∧ t.prec.spill[i] = false)
              ∧ (¬(r.state = .opening ∧ s.handleAt i ∈ rep.settled)
                → ¬(r.state = .closing ∧ s.handleAt i ∈ rep.silent) →
                t.routeAt i = some r ∧ t.prec.spill[i] = s.prec.spill[i]))
      ∧ t.table.order = s.table.order.filter (fun i => (t.routeAt i).isSome)
      ∧ ∃ freed : Vector NoticeSet 4,
        Raised s .freed
          (s.ownedBy (s.table.order.filter fun i =>
            (s.routeAt i).any fun r => decide (r.state = .closing ∧ s.handleAt i ∈ rep.silent)))
          s.link.notices freed
        ∧ (s.ctl.mode = .leaving → t.table.order = [] →
            t.ctl.mode = .setup ∧ t.ctl.host = false ∧ t.link.notices = noticed freed 0 .mode none)
        ∧ (s.ctl.mode ≠ .leaving ∨ t.table.order ≠ [] →
            t.ctl.mode = s.ctl.mode ∧ t.ctl.host = s.ctl.host ∧ t.link.notices = freed)

/-! ### Placement, ducking, spill and the pass -/

/-- The balance attenuation by the side of the speaker and the sign of the balance, in positions of 6
steps with 20 positions silence: LEFT by a positive balance, RIGHT by a negative one, CENTRE by half the
magnitude, and so by 60 steps at most (R13, with R12's att). The fade attenuation by the row in the same
way: FRONT by a positive fade, REAR by a negative one, MIDDLE by half the magnitude (R14). -/
def Obligations.BalanceAttenuatesTheFarSide : Prop :=
  ∀ b : Int, -20 ≤ b → b ≤ 20 →
    let att (k : Int) : Option Int := if k = 20 then none else some (6 * k)
    balanceAtt b .left = (if 0 < b then att b else some 0)
    ∧ balanceAtt b .right = (if b < 0 then att (-b) else some 0)
    ∧ balanceAtt b .centre = (if b = 0 then some 0 else att (b.natAbs / 2 : Nat))
    ∧ (∃ a, balanceAtt b .centre = some a ∧ 0 ≤ a ∧ a ≤ 60)
    ∧ (balanceAtt b .left = none ↔ b = 20) ∧ (balanceAtt b .right = none ↔ b = -20)
    ∧ fadeAtt b .front = (if 0 < b then att b else some 0)
    ∧ fadeAtt b .rear = (if b < 0 then att (-b) else some 0)
    ∧ fadeAtt b .middle = (if b = 0 then some 0 else att (b.natAbs / 2 : Nat))
    ∧ (∃ a, fadeAtt b .middle = some a ∧ 0 ≤ a ∧ a ≤ 60)
    ∧ (fadeAtt b .front = none ↔ b = 20) ∧ (fadeAtt b .rear = none ↔ b = -20)

/-- The duck term of a route at a zone is the largest duck matrix entry of a route that stands against it
there, 0 when there is none, and 0 for an ALERT route (R56, R58, R60, R62). -/
def Obligations.DuckTermIsTheStrongestEntry : Prop :=
  ∀ (s : State) (i : SlotId) (r : Route) (z : Zone), s.routeAt i = some r →
    (r.cls = .alert → s.duckTerm i z = 0)
    ∧ (r.cls ≠ .alert →
        (∀ (a : SlotId) (ra : Route), StandsAgainst s a ra i r z →
          (s.prec.duck[ra.cls.index])[r.cls.index] ≤ s.duckTerm i z)
        ∧ (s.duckTerm i z = 0 ∨ ∃ (a : SlotId) (ra : Route), StandsAgainst s a ra i r z
            ∧ s.duckTerm i z = (s.prec.duck[ra.cls.index])[r.cls.index]))

/-- PASS: a pass changes the spill flags, cells, mix lanes, the Mixer's lanes, the report and notices, and
nothing else. The spill flag of an ALERT route in OPENING or LIVE becomes set exactly when no present
zoned speaker of its declared zones is NORMAL, every other flag is kept. The flags that set raise SPILL to
their owners and to lane 0, in opening order, and no other notice but CROWDED is raised after that: only to
the owner of a cell newly waiting or marked yielding, with its handle (R63, R64, R65, R66, R89, R120, R189).
A report not yet taken is taken first (log entry 7). -/
def Obligations.PassDecidesSpillAndKeepsTheRest : Prop :=
  (∀ s t : State, s.pins.rstAsserted = false → exec .passReport s = .next t →
    exec .pass s = exec .pass t)
  ∧ ∀ s : State, s.pins.rstAsserted = false → s.table.report = none →
    ∃ (t : State) (spilled : Vector NoticeSet 4), exec .pass s = .next t
      ∧ t = { s with
          free := t.free, prec := { s.prec with spill := t.prec.spill }, grid := t.grid
          table := { s.table with report := t.table.report }
          mixer := { s.mixer with lanes := t.mixer.lanes }
          link := { s.link with notices := t.link.notices } }
      ∧ Raised s .spill
          (fun lane => (s.table.order.filter fun i => t.prec.spill[i] && !s.prec.spill[i]).filter fun i =>
            (s.routeAt i).any fun r => decide (r.owner = lane ∨ lane = 0))
          s.link.notices spilled
      ∧ (∀ lane : LaneId, t.link.notices[lane] = spilled[lane]
          ∨ ∃ (i : SlotId) (r : Route) (sp : SpeakerId), s.routeAt i = some r ∧ r.owner = lane
            ∧ (s.cabin.speakers[sp]).present = true
            ∧ (((t.grid[sp]).cells[i]).yielding = true
              ∨ ((t.grid[sp]).cells[i]).waiting = true ∧ ((s.grid[sp]).cells[i]).waiting = false)
            ∧ t.link.notices[lane] =
              { kinds := upd (spilled[lane]).kinds Notice.crowded.index fun _ => true
                latest := some (s.handleAt i) })
      ∧ ∀ i : SlotId,
          (s.routeAt i = none → t.prec.spill[i] = s.prec.spill[i])
          ∧ ∀ r, s.routeAt i = some r →
              (r.cls ≠ .alert ∨ r.state = .closing → t.prec.spill[i] = s.prec.spill[i])
              ∧ (r.cls = .alert → r.state ≠ .closing →
                (t.prec.spill[i] = true ↔ ¬∃ (sp : SpeakerId) (z : Zone),
                  (s.cabin.speakers[sp]).present = true ∧ (s.cabin.speakers[sp]).place = .zoned z
                  ∧ r.zones.getLsbD z.val = true ∧ (s.prot.speakers[sp]).state = .normal))

/-- The targets of a pass: -480 for every cell of a route under any of R93's conditions, and otherwise the
sum of R94 clamped into -480..+48, an ALERT route without the master, the zone level, the mutes and the
duck term. Reach, lead zone and duck term are taken with the spill flags that the pass has just decided
(R16, R62, R93, R94, R95, R96, R98). -/
def Obligations.PassComputesEveryTarget : Prop :=
  ∀ (s t : State) (i : SlotId) (r : Route) (sp : SpeakerId),
    s.pins.rstAsserted = false → s.table.report = none → exec .pass s = .next t →
    s.routeAt i = some r →
    let u := { s with prec := t.prec }
    let e := s.cabin.speakers[sp]
    let target := ((t.grid[sp]).cells[i]).target
    let zones : ZoneSet := if t.prec.spill[i] then 15#4 else r.zones
    let leads (z : Zone) : Prop := zones.getLsbD z.val = true
      ∧ (r.cls = .alert ∨ (s.cabin.zones[z]).mute = false)
    let governs (z : Zone) : Prop := match e.place with
      | .zoned own => own = z ∧ zones.getLsbD z.val = true
      | .shared => leads z ∧ ∀ z' : Zone, z' < z → ¬leads z'
    let bal := balanceAtt (r.placement.getD ⟨0, 0⟩).balance e.side
    let fade := fadeAtt (r.placement.getD ⟨0, 0⟩).fade e.row
    ((r.state = .closing ∨ e.present = false ∨ (s.prot.speakers[sp]).state ≠ .normal
        ∨ s.ctl.host = true ∨ s.ctl.crank = true ∨ (r.cls ≠ .alert ∧ s.cabin.masterMute = true)
        ∨ bal = none ∨ fade = none ∨ (∀ z, ¬governs z)) → target = -480)
    ∧ ∀ z, governs z →
      ((r.cls ≠ .alert ∧ (s.cabin.zones[z]).mute = true ∨ u.duckTerm i z = 480) → target = -480)
      ∧ ∀ b f : Int, r.state ≠ .closing → e.present = true → (s.prot.speakers[sp]).state = .normal →
        s.ctl.host = false → s.ctl.crank = false → bal = some b → fade = some f →
        (r.cls ≠ .alert → s.cabin.masterMute = false ∧ (s.cabin.zones[z]).mute = false) →
        u.duckTerm i z ≠ 480 →
        target = max (-480) (min 48 (r.level
          + (if r.cls = .alert then 0 else s.cabin.masterLevel + (s.cabin.zones[z]).level)
          - b - f + (if r.followsSpeed then s.speedTerm z else 0) - u.duckTerm i z + e.trim
          - (if (s.prot.ports[portOf sp]).state ≠ .clear then 24 else 0)))

/-- The ramp step of a pass on every cell of every non-FREE route, from the gain it had (or -480 at once at a
speaker not NORMAL) toward this pass's target: -480 without a lane; down 48 when yielding; down 48 when
CLOSING by CUT; otherwise up by the profile's rise or down by its fall, never past the target. A cell
granted a lane in this pass, released in it or not, starts from -480 and is not marked yielding
(R97, R102). -/
def Obligations.PassRampsEveryCellOneStep : Prop :=
  ∀ (s t : State) (i : SlotId) (r : Route) (sp : SpeakerId),
    s.pins.rstAsserted = false → s.table.report = none → exec .pass s = .next t →
    s.routeAt i = some r →
    let a : Int := if (s.prot.speakers[sp]).state ≠ .normal then -480 else ((s.grid[sp]).cells[i]).applied
    let cell := (t.grid[sp]).cells[i]
    ((t.grid[sp]).holds i = false → cell.applied = -480)
    ∧ ((t.grid[sp]).holds i = true → cell.yielding = true → cell.applied = max (a - 48) (-480))
    ∧ ((t.grid[sp]).holds i = true → cell.yielding = false →
        r.state = .closing → r.cause = some .cut → cell.applied = max (a - 48) (-480))
    ∧ ((t.grid[sp]).holds i = true → cell.yielding = false →
        ¬(r.state = .closing ∧ r.cause = some .cut) →
        (a < cell.target → cell.applied = min (a + (s.ramps[r.ramp]).rise) cell.target)
        ∧ (cell.target < a → cell.applied = max (a - (s.ramps[r.ramp]).fall) cell.target)
        ∧ (a = cell.target → cell.applied = a))
    ∧ (TableInv s → GridInv s → (t.grid[sp]).holds i = true →
        ((s.grid[sp]).holds i = false ∨ a = -480 ∧ ((s.grid[sp]).cells[i]).yielding = true) →
        a = -480 ∧ cell.yielding = false)

/-- Arbitration at every present speaker. Rank is class, then age (R114). A cell with gain and target -480
holds no lane after it and is not marked yielding; a holder keeps its very lane unless its gain is -480 and
its target is -480 or it was yielding; a cell that comes to hold a lane needs one (R116, R117). The free
lanes, by number, go to the candidates in rank order (R117). Of the leftover candidates the first are
covered, one for each holder still yielding, and mark none; each further one, in rank order, marks the
lowest-ranked holder not yet marked, while that ranks below it (R118). A cell waits exactly when it needs a
lane and holds none, and then every lane of the speaker is held (R117, R119). A holder newly marked yielding
ranks below some waiting cell (R118), and every newly waiting or yielding cell of a route raises CROWDED to
its owner (R120). Absent speakers keep their lanes as they are (R122). -/
def Obligations.PassSettlesTheMixLanes : Prop :=
  (∀ (s : State) (i j : SlotId) (ri rj : Route), TableInv s → s.routeAt i = some ri →
    s.routeAt j = some rj →
    (s.table.ranked.idxOf i < s.table.ranked.idxOf j ↔
      rj.cls.code < ri.cls.code
      ∨ ri.cls = rj.cls ∧ s.table.order.idxOf i < s.table.order.idxOf j))
  ∧ ∀ (s t : State) (sp : SpeakerId), s.pins.rstAsserted = false → s.table.report = none →
    TableInv s → GridInv s → exec .pass s = .next t →
    let before : Column := s.grid[sp]
    let after : Column := t.grid[sp]
    let a (i : SlotId) : Int :=
      if (s.prot.speakers[sp]).state ≠ .normal then -480 else (before.cells[i]).applied
    let needs (i : SlotId) : Prop := -480 < (after.cells[i]).target
    let released (i : SlotId) : Bool :=
      decide (a i = -480) && (decide ((after.cells[i]).target = -480) || (before.cells[i]).yielding)
    let freeLanes := (List.finRange 8).filter fun k => (before.lanes[k]).all released
    let candidates := s.table.ranked.filter fun (i : SlotId) =>
      decide (-480 < (after.cells[i]).target) && (!before.holds i || released i)
    let yieldsOn (i : SlotId) : Bool := (before.cells[i]).yielding && !released i
    let uncovered := (candidates.drop freeLanes.length).drop (s.table.ranked.countP yieldsOn)
    let lowestFirst := (s.table.ranked.filter fun (i : SlotId) => after.holds i && !yieldsOn i).reverse
    ((s.cabin.speakers[sp]).present = false → after.lanes = before.lanes)
    ∧ ((s.cabin.speakers[sp]).present = true →
        (∀ k ∈ freeLanes, after.lanes[k] = candidates[freeLanes.idxOf k]?)
        ∧ ∀ i : SlotId, (after.cells[i]).yielding = true ↔ yieldsOn i = true
          ∨ ∃ (n : Nat) (c : SlotId), uncovered[n]? = some c ∧ lowestFirst[n]? = some i
            ∧ s.table.ranked.idxOf c < s.table.ranked.idxOf i)
    ∧ ((s.cabin.speakers[sp]).present = true → ∀ i : SlotId,
        (∀ k : MixId, before.lanes[k] = some i →
          ¬(a i = -480 ∧ (¬needs i ∨ (before.cells[i]).yielding = true)) → after.lanes[k] = some i)
        ∧ (a i = -480 → ¬needs i → after.holds i = false ∧ (after.cells[i]).yielding = false)
        ∧ (before.holds i = false → after.holds i = true → needs i)
        ∧ ((after.cells[i]).waiting = true ↔ needs i ∧ after.holds i = false)
        ∧ ((after.cells[i]).waiting = true → ∀ k : MixId, after.lanes[k] ≠ none)
        ∧ ((after.cells[i]).yielding = true → (before.cells[i]).yielding = false →
            after.holds i = true ∧ ∃ j : SlotId, (after.cells[j]).waiting = true
              ∧ s.table.ranked.idxOf j < s.table.ranked.idxOf i)
        ∧ ∀ r, s.routeAt i = some r →
            ((after.cells[i]).waiting = true ∧ (before.cells[i]).waiting = false
              ∨ (after.cells[i]).yielding = true ∧ (before.cells[i]).yielding = false) →
            (t.link.notices[r.owner]).kinds[Notice.crowded.index] = true)

/-- The end of a pass: the report names exactly the OPENING routes whose every lane-holding cell is at its
target (a yielding cell by the same test, which is the model's choice, log entry 30) and the CLOSING routes whose every cell is at -480 without a lane; and every lane of every
speaker is handed its holder and its holder's applied gain, -480 when free, from which a RUNNING Mixer
starts a glide at the gain in use and a Mixer in CLOCK_LOST moves nothing (R106, R107, R109, R129,
R133). -/
def Obligations.PassReportsAndStartsGlides : Prop :=
  ∀ s t : State, s.pins.rstAsserted = false → s.table.report = none → exec .pass s = .next t →
    (∃ rep, t.table.report = some rep
      ∧ (∀ h : Handle, h ∈ rep.settled ↔ ∃ (i : SlotId) (r : Route), h = s.handleAt i
          ∧ s.routeAt i = some r ∧ r.state = .opening
          ∧ ∀ sp : SpeakerId, (t.grid[sp]).holds i = true →
              ((t.grid[sp]).cells[i]).applied = ((t.grid[sp]).cells[i]).target)
      ∧ ∀ h : Handle, h ∈ rep.silent ↔ ∃ (i : SlotId) (r : Route), h = s.handleAt i
          ∧ s.routeAt i = some r ∧ r.state = .closing
          ∧ ∀ sp : SpeakerId, (t.grid[sp]).holds i = false ∧ ((t.grid[sp]).cells[i]).applied = -480)
    ∧ ∀ (sp : SpeakerId) (k : MixId),
        let old := (s.mixer.lanes[sp])[k]
        let holder := (t.grid[sp]).lanes[k]
        let goal : Int := match holder with
          | some i => ((t.grid[sp]).cells[i]).applied
          | none => -480
        (s.mixer.clock = .running → (t.mixer.lanes[sp])[k] =
          { holder := holder, gain := old.gain, start := old.gain, goal := goal, frames := 0 })
        ∧ (s.mixer.clock = .lost →
          (t.mixer.lanes[sp])[k] = { old with holder := holder, goal := goal })

/-! ### The signal path -/

/-- The linear gain of a gain in steps: the table is 2^23·2^(-k/24) to the nearest whole number; lin is 0 at
-480, and otherwise T[k]·2^m or T[k]/2^-m rounded half up; it never falls as the gain rises, lies in
0..33554432, and is 8 at -479 (R131). -/
def Obligations.LinearGainFollowsTheTable : Prop :=
  (∀ k : Fin 24,
    (2 * linTable[k] - 1) ^ 24 ≤ 2 ^ (576 - k.val) ∧ (2 : Int) ^ (576 - k.val) < (2 * linTable[k] + 1) ^ 24)
  ∧ lin (-480) = 0 ∧ lin (-479) = 8
  ∧ (∀ (q m : Int) (k : Fin 24), -480 < q → q ≤ 48 → q = 24 * m - k.val →
      (0 ≤ m → lin q = linTable[k] * 2 ^ m.toNat)
      ∧ (m < 0 → lin q * 2 ^ (-m).toNat ≤ linTable[k] + 2 ^ ((-m).toNat - 1)
          ∧ linTable[k] + 2 ^ ((-m).toNat - 1) < (lin q + 1) * 2 ^ (-m).toNat))
  ∧ ∀ q q' : Int, -480 ≤ q → q ≤ q' → q' ≤ 48 → 0 ≤ lin q ∧ lin q ≤ lin q' ∧ lin q' ≤ 33554432

/-- A glide: over 48 frames the gain in use goes from its start to the linear gain of its end value, each
value the straight line's rounded to nearest, half away from zero, and between the two ends; it reaches
the end at frame 48 and stays there (R133). -/
def Obligations.GlidesReachTheirEndInFrames : Prop :=
  ∀ l : MixLane, l.gain = l.start → l.frames = 0 →
    (∀ j, j ≤ 48 →
      let x := applyTimes MixLane.advance j l
      x.frames = j ∧ x.goal = l.goal ∧ x.holder = l.holder
      ∧ |48 * (x.gain - l.start) - (lin l.goal - l.start) * j| ≤ 24
      ∧ (|48 * (x.gain - l.start) - (lin l.goal - l.start) * j| = 24 →
          |(lin l.goal - l.start) * j| < |48 * (x.gain - l.start)|)
      ∧ min l.start (lin l.goal) ≤ x.gain ∧ x.gain ≤ max l.start (lin l.goal))
    ∧ (∀ j, 48 ≤ j → (applyTimes MixLane.advance j l).gain = lin l.goal)

/-- FRAME_BEGIN and FRAME_DISCARD begin a frame and send the held samples; CLOCK_LOSS in RUNNING sets every
held sample to 0 and raises CLOCK to lane 0 outside STANDBY; none of them changes anything else but the
clock state and its measurement (R126, R127, R128). -/
def Obligations.FrameEdgesAndClockLoss : Prop :=
  (∀ s : State, s.pins.rstAsserted = false →
    ∃ left : Nat,
      exec .frameBegin s =
        .next { s with mixer := { s.mixer with
          inFrame := true, fsyncLeft := left, sending := s.mixer.held } }
      ∧ exec .frameDiscard s =
        .next { s with mixer := { s.mixer with
          inFrame := true, fsyncLeft := left, sending := s.mixer.held } })
  ∧ ∀ s : State, s.pins.rstAsserted = false → s.mixer.clock = .running →
    ∃ left : Nat, exec .clockLoss s =
      .next { s with
        mixer := { s.mixer with clock := .lost, fsyncLeft := left, held := Vector.replicate 24 0 }
        link := { s.link with notices :=
          if s.ctl.mode = .standby then s.link.notices else noticed s.link.notices 0 .clock none } }

/-- FRAME_EVENT: the clock state is RUNNING, every lane's glide moves by one frame (or, at the return of
frames, jumps to its end), and every speaker whose gate is open mixes and filters the frame, at the return
of frames with its section states cleared first; a speaker whose gate is closed before or after the frame
sends 0 with its states at 0. The overload detector, with gate open and protection mode not OFF, counts the
frames of at least the threshold amplitude in a row, from 0 at the return of frames; an overload event
occurs exactly when the count equals the deglitch, and acts by the protection mode. CLOCK is raised at the
return of frames, except in STANDBY, PROTECT where a gate closes; coefficients, tone indices, holders, end
values and everything else are kept (R126, R130, R133, R136, R142, R147, R148, R149 to R152). -/
def Obligations.FrameEventAdvancesTheSignalPath : Prop :=
  ∀ (s : State) (samples : Vector Sample 16), s.pins.rstAsserted = false →
    ∃ (t : State) (y : SpeakerId → Int) (states : SpeakerId → Vector SectionState 6),
      let returned : Vector NoticeSet 4 :=
        if s.mixer.clock = .lost ∧ s.ctl.mode ≠ .standby then noticed s.link.notices 0 .clock none
        else s.link.notices
      let counter (sp : SpeakerId) : Nat :=
        if s.mixer.clock = .lost then 0 else (s.prot.speakers[sp]).counter
      let amplitude (sp : SpeakerId) : Int :=
        (8388607 * lin (-((s.cabin.speakers[sp]).threshold : Int))).fdiv 8388608
      let counted (sp : SpeakerId) : Nat := if amplitude sp ≤ |y sp| then counter sp + 1 else 0
      let watched (sp : SpeakerId) : Prop :=
        s.mixer.gates[sp] = true ∧ (s.cabin.speakers[sp]).protMode ≠ .off
      let event (sp : SpeakerId) : Prop :=
        watched sp ∧ counted sp = (s.cabin.speakers[sp]).deglitch
      exec (.frameEvent samples) s = .next t
      ∧ t = { s with
          mixer := { s.mixer with
            clock := .running, inFrame := false, lanes := t.mixer.lanes, gates := t.mixer.gates
            held := t.mixer.held }
          eq := { s.eq with speakers := t.eq.speakers }
          prot := { s.prot with speakers := t.prot.speakers, summary := t.prot.summary }
          link := { s.link with notices := t.link.notices } }
      ∧ ((∀ sp : SpeakerId, t.mixer.gates[sp] = s.mixer.gates[sp]) → t.link.notices = returned)
      ∧ ((∃ sp : SpeakerId, t.mixer.gates[sp] ≠ s.mixer.gates[sp]) →
          t.link.notices = noticed returned 0 .protect none)
      ∧ (∀ (sp : SpeakerId) (k : MixId),
          let old := (s.mixer.lanes[sp])[k]
          let new := (t.mixer.lanes[sp])[k]
          (s.mixer.clock = .lost → new = { old with gain := lin old.goal, frames := 48 })
          ∧ (s.mixer.clock = .running → 48 ≤ old.frames → new = old)
          ∧ (s.mixer.clock = .running → old.frames < 48 →
              new = { old with gain := old.gainAt (old.frames + 1), frames := old.frames + 1 }))
      ∧ (∀ sp : SpeakerId,
          t.eq.speakers[sp] = { s.eq.speakers[sp] with state := (t.eq.speakers[sp]).state }
          ∧ (s.mixer.gates[sp] = false → t.mixer.gates[sp] = false)
          ∧ (t.mixer.gates[sp] = false →
              t.mixer.held[sp] = 0 ∧ ∀ n : Fin 6, (t.eq.speakers[sp]).state[n] = ⟨0, 0, 0, 0⟩)
          ∧ (s.mixer.gates[sp] = true →
              Filters s.eq.speakers[sp]
                (if s.mixer.clock = .lost then Vector.replicate 6 ⟨0, 0, 0, 0⟩
                  else (s.eq.speakers[sp]).state)
                (s.mixHeard samples sp t.mixer.lanes[sp]) (y sp) (states sp))
          ∧ (t.mixer.gates[sp] = true →
              t.mixer.held[sp] = y sp ∧ (t.eq.speakers[sp]).state = states sp))
      ∧ (∀ sp : SpeakerId,
          (¬watched sp →
            t.prot.speakers[sp] = { s.prot.speakers[sp] with counter := counter sp }
            ∧ t.mixer.gates[sp] = s.mixer.gates[sp])
          ∧ (watched sp → ¬event sp →
            t.prot.speakers[sp] = { s.prot.speakers[sp] with counter := counted sp }
            ∧ t.mixer.gates[sp] = true)
          ∧ (event sp →
            Overloaded (s.cabin.speakers[sp]).protMode s.prot.speakers[sp] t.prot.speakers[sp]
            ∧ (t.mixer.gates[sp] = true ↔ (s.cabin.speakers[sp]).protMode = .report)))
      ∧ (t.prot.summary = true ↔ s.prot.summary = true ∨ ∃ sp : SpeakerId, event sp)

/-- A speaker whose gate the frame leaves open sends its mix through its six sections: the mix is the sum
over its held lanes of the feed times the gain in use, rounded and saturated, and each section forms its
saturated output from its coefficients and its two latest inputs and outputs, which then move on by one; at
the return of frames these are 0 before. With flat sections the mix itself is sent. The run of the six
sections, for any coefficients, states and input, is that same filter (R18, R130, R135, R136). -/
def Obligations.OpenSpeakersSendTheirMix : Prop :=
  (∀ (s t : State) (samples : Vector Sample 16) (sp : SpeakerId), s.pins.rstAsserted = false →
    exec (.frameEvent samples) s = .next t → t.mixer.gates[sp] = true →
    Filters s.eq.speakers[sp]
      (if s.mixer.clock = .lost then Vector.replicate 6 ⟨0, 0, 0, 0⟩ else (s.eq.speakers[sp]).state)
      (s.mixHeard samples sp t.mixer.lanes[sp]) t.mixer.held[sp] (t.eq.speakers[sp]).state
    ∧ ((∀ n : Fin 4, (s.eq.speakers[sp]).voicing[n] = ⟨4194304, 0, 0, 0, 0⟩) →
      (s.eq.speakers[sp]).low = ⟨4194304, 0, 0, 0, 0⟩ →
      (s.eq.speakers[sp]).high = ⟨4194304, 0, 0, 0, 0⟩ →
      t.mixer.held[sp] = s.mixHeard samples sp t.mixer.lanes[sp]))
  ∧ ∀ (e : SpeakerEq) (x : Int), Filters e e.state x (e.run x).1 (e.run x).2

/-- TONE_WALK_EXPIRY: every speaker whose timer runs moves each applied index one step toward its target (bass
plus lift clamped to -12..+12, and treble, of its tone zone), takes the tone table's coefficients there,
keeps its section states and restarts its timer; a stopped one does nothing; nothing else changes (R84,
R139, R140, R141). That the 24 timers expire by one command, which acts whatever is left of their 16 ms, is
the model's choice (log entry 19). -/
def Obligations.ToneWalksOneStepToItsTarget : Prop :=
  ∀ s : State, s.pins.rstAsserted = false → SignalInv s →
    ∃ t, exec .toneWalkExpiry s = .next t
      ∧ t = { s with eq := { s.eq with speakers := t.eq.speakers } }
      ∧ ∀ sp : SpeakerId,
          let old := s.eq.speakers[sp]
          let new := t.eq.speakers[sp]
          let z := match (s.cabin.speakers[sp]).place with | .zoned z => z | .shared => s.cabin.toneZone
          let low := max (-12) (min 12 ((s.cabin.zones[z]).bass + (s.speedTerm z).fdiv 12))
          let high := (s.cabin.zones[z]).treble
          (old.walk = none → new = old)
          ∧ (old.walk.isSome = true → -12 ≤ high → high ≤ 12 →
            new = { old with
              low := new.low, high := new.high, lowIndex := new.lowIndex, highIndex := new.highIndex
              walk := some 16 }
            ∧ new.lowIndex = old.lowIndex + (low - old.lowIndex).sign
            ∧ new.highIndex = old.highIndex + (high - old.highIndex).sign
            ∧ (∀ n : Fin 25, (n.val : Int) = new.lowIndex + 12 → new.low = s.eq.toneLow[n])
            ∧ (∀ n : Fin 25, (n.val : Int) = new.highIndex + 12 → new.high = s.eq.toneHigh[n]))

/-! ### Speaker protection -/

/-- CLEAR_PROTECT returns every speaker to NORMAL with its gate open, every timer stopped and every count and
flag clear, the summary flag too; ports and notices stay, and so does everything else; the answer is
DONE, and DENIED on lanes 1 to 3 (R155).
The single expiries: a retry timer returns its speaker to NORMAL with its gate open, its frame counter 0
and an escalation window of 2000 ms, the repeat count kept; an escalation window sets the repeat count to
0; a thermal hold makes its port CLEAR. Nothing else changes (R153, R154, R157). That each acts, as a
command of its own, whatever time is left is the model's choice (log entry 3). -/
def Obligations.ProtectionIsClearedAndRecovers : Prop :=
  (HeadLaneOnly .clearProtect .clearProtect
    ∧ ∀ (s : State) (w : Window) (fs : List Field) (u : State), Admits s .clearProtect w fs u →
      exec (.clearProtect w) s =
        .next { u with
          prot := { u.prot with
            speakers := Vector.replicate 24 ⟨.normal, 0, none, 0, none, false⟩, summary := false }
          mixer := { u.mixer with gates := Vector.replicate 24 true }
          link := u.replied .clearProtect w (dataless .done) })
  ∧ ((∀ (s : State) (sp : SpeakerId), s.pins.rstAsserted = false →
      (s.prot.speakers[sp]).retry.isSome = true →
      exec (.retryTimerExpiry sp) s =
        .next { s with
          prot := { s.prot with speakers := upd s.prot.speakers sp fun p =>
            { p with state := .normal, counter := 0, retry := none, window := some 2000 } }
          mixer := { s.mixer with gates := upd s.mixer.gates sp fun _ => true } })
    ∧ (∀ (s : State) (sp : SpeakerId), s.pins.rstAsserted = false →
      (s.prot.speakers[sp]).window.isSome = true →
      exec (.escalationWindowExpiry sp) s =
        .next { s with prot := { s.prot with speakers := upd s.prot.speakers sp fun p =>
          { p with window := none, repeats := 0 } } })
    ∧ ∀ (s : State) (port : PortId), s.pins.rstAsserted = false →
      (s.prot.ports[port]).hold.isSome = true →
      exec (.thermalHoldExpiry port) s =
        .next { s with prot := { s.prot with ports := upd s.prot.ports port fun _ => ⟨.clear, none⟩ } })

/-- The overload event by the protection mode. REPORT sets the report and summary flags and leaves the gate
open. The retry modes count the trip (one more inside a running escalation window, else 1): below 4 the
speaker is TRIPPED with 50 or 500 ms, at 4 LATCHED by escalation; LATCH makes it LATCHED DIRECT. Those
three close the gate on a frame of 0 with section states at 0, stop the window, set the summary flag and
raise PROTECT to lane 0. No other speaker changes (R142, R148, R149, R150, R151, R152). In CLOCK_LOST, where
no frame is counted (R129, R149), in STANDBY, at a closed gate and under OFF nothing happens. That the event
is also a command of its own, without a frame and whatever the frame counter holds, is the model's (log
entries 5 and 17). -/
def Obligations.OverloadActsByProtectionMode : Prop :=
  (∀ (s : State) (sp : SpeakerId), s.mixer.clock = .lost ∨ s.ctl.mode = .standby
      ∨ s.mixer.gates[sp] = false ∨ (s.cabin.speakers[sp]).protMode = .off →
    exec (.overloadEvent sp) s = .next s)
  ∧ ∀ (s : State) (sp : SpeakerId), s.pins.rstAsserted = false → s.ctl.mode ≠ .standby →
    s.mixer.clock = .running → s.mixer.gates[sp] = true →
    let old := s.prot.speakers[sp]
    let trips := if old.window.isSome then old.repeats + 1 else 1
    ((s.cabin.speakers[sp]).protMode = .report →
      ∃ speakers : Vector SpeakerProt 24, exec (.overloadEvent sp) s =
          .next { s with prot := { s.prot with speakers := speakers, summary := true } }
        ∧ speakers[sp] = { old with counter := 0, report := true }
        ∧ ∀ other : SpeakerId, other ≠ sp → speakers[other] = s.prot.speakers[other])
    ∧ ∀ now : SpeakerProt,
      ((s.cabin.speakers[sp]).protMode = .retryFast ∧ trips < 4
          ∧ now = { old with state := .tripped, counter := 0, retry := some 50, repeats := trips, window := none }
        ∨ (s.cabin.speakers[sp]).protMode = .retrySlow ∧ trips < 4
          ∧ now = { old with state := .tripped, counter := 0, retry := some 500, repeats := trips, window := none }
        ∨ ((s.cabin.speakers[sp]).protMode = .retryFast ∨ (s.cabin.speakers[sp]).protMode = .retrySlow)
          ∧ 4 ≤ trips
          ∧ now = { old with
              state := .latched .escalated, counter := 0, retry := none, repeats := trips, window := none }
        ∨ (s.cabin.speakers[sp]).protMode = .latch
          ∧ now = { old with state := .latched .direct, counter := 0, window := none }) →
      ∃ t, exec (.overloadEvent sp) s = .next t
        ∧ t = { s with
            mixer := { s.mixer with gates := t.mixer.gates, held := t.mixer.held }
            eq := { s.eq with speakers := t.eq.speakers }
            prot := { s.prot with speakers := t.prot.speakers, summary := true }
            link := { s.link with notices := noticed s.link.notices 0 .protect none } }
        ∧ t.prot.speakers[sp] = now ∧ t.mixer.gates[sp] = false ∧ t.mixer.held[sp] = 0
        ∧ t.eq.speakers[sp] = { s.eq.speakers[sp] with state := (t.eq.speakers[sp]).state }
        ∧ (∀ n : Fin 6, (t.eq.speakers[sp]).state[n] = ⟨0, 0, 0, 0⟩)
        ∧ ∀ other : SpeakerId, other ≠ sp →
            t.prot.speakers[other] = s.prot.speakers[other]
            ∧ t.mixer.gates[other] = s.mixer.gates[other] ∧ t.mixer.held[other] = s.mixer.held[other]
            ∧ t.eq.speakers[other] = s.eq.speakers[other]

/-- AWARN_SAMPLE, the Protection Monitor's millisecond event: each port follows its line by R157's table and
counts its hold timer; each retry timer and escalation window counts by one, a retry at 0 returning its
speaker to NORMAL with its gate open and a fresh window of 2000 ms, a window at 0 setting the repeat count
to 0; nothing else changes (R153, R154, R157). That AWARN_SAMPLE is the whole event, counts and expiries
included, is the model's (log entry 4). -/
def Obligations.ThermalLinesAndTimersAreCounted : Prop :=
  ∀ (s : State) (awarn : Vector Bool 3), s.pins.rstAsserted = false → ProtectionInv s →
    ∃ t, exec (.awarnSample awarn) s = .next t
      ∧ t = { s with
          pins := { s.pins with awarn := awarn }
          prot := { s.prot with speakers := t.prot.speakers, ports := t.prot.ports }
          mixer := { s.mixer with gates := t.mixer.gates } }
      ∧ (∀ port : PortId,
          let old := s.prot.ports[port]
          let new := t.prot.ports[port]
          (awarn[port] = true → new = ⟨.warned, none⟩)
          ∧ (awarn[port] = false → old.state = .clear → new = ⟨.clear, none⟩)
          ∧ (awarn[port] = false → old.state = .warned → new = ⟨.holding, some 2000⟩)
          ∧ (awarn[port] = false → old.hold = some 1 → new = ⟨.clear, none⟩)
          ∧ ∀ n, awarn[port] = false → old.hold = some n → 1 < n → new = ⟨.holding, some (n - 1)⟩)
      ∧ ∀ sp : SpeakerId,
          let old := s.prot.speakers[sp]
          let new := t.prot.speakers[sp]
          (old.retry = some 1 →
            new = { old with state := .normal, counter := 0, retry := none, window := some 2000 }
            ∧ t.mixer.gates[sp] = true)
          ∧ (old.retry ≠ some 1 → t.mixer.gates[sp] = s.mixer.gates[sp]
            ∧ (∀ n, old.retry = some n → new = { old with retry := some (n - 1) })
            ∧ (old.retry = none →
              (old.window = none → new = old)
              ∧ (old.window = some 1 → new = { old with window := none, repeats := 0 })
              ∧ ∀ n, old.window = some n → 1 < n → new = { old with window := some (n - 1) }))

/-! ### What every command keeps -/

/-- Every command that changes the operating mode, and how: entry to STANDBY from any mode, the end of the
wake-up from STANDBY to SETUP, SET_MODE RUN from SETUP to RUN, SET_MODE SETUP from RUN to LEAVING (and on
to SETUP with the table empty), and the last route's freeing from LEAVING to SETUP; besides these the two
resets alone (R161). -/
def Obligations.ModeChangesOnlyByItsEvents : Prop :=
  ∀ (c : Instr) (s t : State), c.wf = true → exec c s = .next t → t.ctl.mode ≠ s.ctl.mode →
    (∃ lines, c = .powerOn lines ∨ c = .rstNRelease lines)
    ∨ (t.ctl.mode = .standby ∧ ∃ crank awarn, c = .entryToStandby crank awarn)
    ∨ (s.ctl.mode = .standby ∧ t.ctl.mode = .setup ∧ c = .endOfWakeUp)
    ∨ (s.ctl.mode = .setup ∧ t.ctl.mode = .run ∧ ∃ w, c = .setModeRun w)
    ∨ (s.ctl.mode = .run ∧ t.ctl.mode = .leaving ∧ ∃ w, c = .setModeSetup w)
    ∨ ((s.ctl.mode = .leaving ∨ s.ctl.mode = .run ∧ ∃ w, c = .setModeSetup w)
        ∧ t.ctl.mode = .setup ∧ ∀ i : SlotId, t.routeAt i = none)

/-- Each setting changes only by the request that writes it, apart from the two resets: neither STANDBY nor
any mode change, pulse, pass, frame or other request touches it (R11, R53, R55, R79, R87, R99, R137, R138,
R175, R187). -/
def Obligations.SettingsChangeOnlyByTheirRequest : Prop :=
  ∀ (c : Instr) (s t : State), c.wf = true → exec c s = .next t →
    (∀ lines, c ≠ .powerOn lines ∧ c ≠ .rstNRelease lines) →
    (t.cabin.speakers ≠ s.cabin.speakers → ∃ w, c = .loadSpeaker w)
    ∧ (t.cabin.zones ≠ s.cabin.zones → ∃ w, c = .setZone w)
    ∧ (t.cabin.masterLevel ≠ s.cabin.masterLevel ∨ t.cabin.masterMute ≠ s.cabin.masterMute
        ∨ t.cabin.toneZone ≠ s.cabin.toneZone → ∃ w, c = .setMaster w)
    ∧ (t.prec.duck ≠ s.prec.duck → ∃ w, c = .loadDuck w)
    ∧ (t.speed.curves ≠ s.speed.curves → ∃ w, c = .loadCurve w)
    ∧ (t.speed.staleTime ≠ s.speed.staleTime → ∃ w, c = .setStale w)
    ∧ (t.ramps ≠ s.ramps → ∃ w, c = .loadRamp w)
    ∧ (t.table.quotas ≠ s.table.quotas → ∃ w, c = .setQuota w)
    ∧ (t.ctl.crankDelay ≠ s.ctl.crankDelay → ∃ w, c = .setCrankDelay w)
    ∧ (t.link.limits ≠ s.link.limits → ∃ w, c = .setLimit w)
    ∧ (t.eq.toneLow ≠ s.eq.toneLow ∨ t.eq.toneHigh ≠ s.eq.toneHigh → ∃ w, c = .loadTone w)
    ∧ ∀ sp : SpeakerId,
        (t.eq.speakers[sp]).voicing ≠ (s.eq.speakers[sp]).voicing → ∃ w, c = .loadVoicing w

/-- A request of any kind from lane 1, 2 or 3 leaves every setting, mode, hush cause, protection state, gain,
filter and quota as it is, the pass report, and every other lane's routes and response limit: of the
tables, only its own lane's routes and limit and the speed report are open to it (R183, R21, R35, R38). -/
def Obligations.ClientLanesCannotConfigure : Prop :=
  ∀ (k : Kind) (w : Window) (s t : State), w.lane ≠ 0 → exec (commandOf k w) s = .next t →
    t.ctl = s.ctl ∧ t.pins = s.pins ∧ t.cabin = s.cabin ∧ t.prec.duck = s.prec.duck
    ∧ t.pending = s.pending ∧ t.free = s.free ∧ t.table.report = s.table.report
    ∧ t.ramps = s.ramps ∧ t.grid = s.grid ∧ t.mixer = s.mixer ∧ t.eq = s.eq ∧ t.prot = s.prot
    ∧ t.speed.curves = s.speed.curves ∧ t.speed.staleTime = s.speed.staleTime
    ∧ t.speed.effective = s.speed.effective ∧ t.table.quotas = s.table.quotas
    ∧ t.link.capture = s.link.capture ∧ t.link.linkErr = s.link.linkErr
    ∧ (∀ lane : LaneId, lane ≠ w.lane → t.link.limits[lane] = s.link.limits[lane])
    ∧ ∀ (i : SlotId) (r : Route), s.routeAt i = some r → r.owner ≠ w.lane →
        t.table.slots[i] = s.table.slots[i] ∧ t.prec.spill[i] = s.prec.spill[i]

/-! ### Invariants of every step -/

/-- The part just after power-on or RST_N, whatever its lines, meets every invariant below. -/
def Obligations.ResetMeetsTheInvariants : Prop :=
  ∀ lines : Lines,
    CabinInv (State.powerOn lines) ∧ TablesInv (State.powerOn lines) ∧ SpeedInv (State.powerOn lines)
    ∧ TableInv (State.powerOn lines) ∧ GridInv (State.powerOn lines)
    ∧ ProtectionInv (State.powerOn lines) ∧ LinkInv (State.powerOn lines)
    ∧ ModeInv (State.powerOn lines) ∧ SignalInv (State.powerOn lines)

/-- Every step keeps every setting of the Cabin Map, the duck matrix with its ALERT column 0, the ramp
profiles and the quotas in range (R1, R6, R7, R24, R53, R99).
Every step keeps the Speed Monitor sound: speeds within 1200, the stale timer running exactly while
FRESH, curves strictly rising (R70, R79). -/
def Obligations.SettingsAndSpeedStayInRange : Prop :=
  (∀ s t : State, CabinInv s → TablesInv s → step s = .next t → CabinInv t ∧ TablesInv t)
  ∧ (∀ s t : State, SpeedInv s → step s = .next t → SpeedInv t)

/-- Every step keeps the Route Table sound: the opening order list, generations, records, the quotas, the
ALERT reserve, the spill flags, no route in STANDBY and SETUP, and LEAVING only while routes are closing
(R19, R20, R23, R24, R26, R27, R43, R44, R63). -/
def Obligations.RouteTableStaysSound : Prop :=
  ∀ s t : State, TableInv s → step s = .next t → TableInv t

/-- Every step keeps the grid sound: gains in -480..+48, one lane at most to a cell, no gain without a lane,
the two marks apart, FREE slots and absent speakers silent (R2, R86, R92, R112). -/
def Obligations.GridStaysSound : Prop :=
  ∀ s t : State, TableInv s → TablesInv s → GridInv s → step s = .next t → GridInv t

/-- Every step keeps a speaker's gate open exactly while it is NORMAL, its timers to their states, its counts
in range and the summary flag set while there is something to report (R146, R148, R151, R157). -/
def Obligations.ProtectionStaysSound : Prop :=
  ∀ s t : State, ProtectionInv s → step s = .next t → ProtectionInv t

/-- Every step keeps at most 8 responses in the queue, none longer than 508 bytes, the limits in range and
the link error capture consistent with LINK_ERR (R179, R184, R186, R187).
Every step keeps HOST to RUN and LEAVING, the crank timer to a present CRANK cause, a wake-up to STANDBY
and the tone walk timers to the other modes (R141, R165, R172, R173). -/
def Obligations.LinkAndModeControllerStaySound : Prop :=
  (∀ s t : State, LinkInv s → step s = .next t → LinkInv t)
  ∧ (∀ s t : State, ModeInv s → step s = .next t → ModeInv t)

/-- Every step keeps every sample, section state and coefficient a 24-bit number, every lane's gain within
0..33554432 and every tone index in -12..+12 (R127, R131, R132, R136, R139, R140). -/
def Obligations.SignalPathStaysInRange : Prop :=
  ∀ s t : State, CabinInv s → TablesInv s → TableInv s → GridInv s → SignalInv s → step s = .next t →
    SignalInv t
end

