-- ==== Sys2Proof/Laws/Tables.lean ====
section
/-! SUPPORT. Laws of the shared operations on tables, ranges and timers. -/
namespace Sys2Proof.Machine

/-- What an entry of an updated table is. -/
theorem upd_getElem {α : Type} {n : Nat} (v : Vector α n) (i : Fin n) (f : α → α) (k : Nat) (h : k < n) :
    (upd v i f)[k] = if i.val = k then f v[k] else v[k] := by
  unfold upd
  rw [Vector.getElem_set]
  split_ifs with e
  · subst e; rfl
  · rfl

@[simp] theorem upd_self {α : Type} {n : Nat} (v : Vector α n) (i : Fin n) (f : α → α) :
    (upd v i f)[i.val] = f v[i.val] := by rw [upd_getElem, if_pos rfl]

theorem upd_ne {α : Type} {n : Nat} (v : Vector α n) (i j : Fin n) (f : α → α) (h : j ≠ i) :
    (upd v i f)[j] = v[j] := by
  rw [Fin.getElem_fin, upd_getElem, if_neg fun e => h (Fin.ext e.symm), Fin.getElem_fin]

theorem upd_get {α : Type} {n : Nat} (v : Vector α n) (i j : Fin n) (f : α → α) :
    (upd v i f)[j] = if j = i then f v[j] else v[j] := by
  split_ifs with h
  · subst h; exact upd_self v j f
  · exact upd_ne v i j f h

theorem ofFn_get {α : Type} {n : Nat} (f : Fin n → α) (j : Fin n) : (Vector.ofFn f)[j] = f j := by simp

theorem replicate_get {α : Type} {n : Nat} (a : α) (j : Fin n) : (Vector.replicate n a)[j] = a := by simp

/-- Tables are equal when their entries are. -/
theorem vector_ext {α : Type} {n : Nat} {v w : Vector α n} (h : ∀ i : Fin n, v[i] = w[i]) : v = w := by
  ext i hi; exact h ⟨i, hi⟩

/-- An entry at a place counted in the list of a table. -/
theorem mem_toList_iff {α : Type} {n : Nat} (v : Vector α n) (a : α) :
    a ∈ v.toList ↔ ∃ i : Fin n, v[i] = a := by
  rw [Vector.mem_toList_iff, Vector.mem_iff_getElem]
  exact ⟨fun ⟨i, h, e⟩ => ⟨⟨i, h⟩, e⟩, fun ⟨i, e⟩ => ⟨i.val, i.isLt, e⟩⟩

/-- The list of a table is its entries in order. -/
theorem toList_eq_map {α : Type} {n : Nat} (v : Vector α n) :
    v.toList = (List.finRange n).map fun i => v[i] := by
  apply List.ext_getElem <;> simp

theorem clampTo_eq {lo hi : Int} (h : lo ≤ hi) (x : Int) : clampTo lo hi x = max lo (min x hi) := by
  unfold clampTo; split_ifs <;> omega

theorem clampNat_eq {lo hi : Nat} (h : lo ≤ hi) (x : Nat) : clampNat lo hi x = max lo (min x hi) := by
  unfold clampNat; split_ifs <;> omega

/-- Saturation as the nearer end (R135). -/
theorem sat24_eq (x : Int) : sat24 x = max (-8388608) (min 8388607 x) := by
  unfold sat24 clampTo; split_ifs <;> omega

/-- A section's output, its quotient rounded down (R136). -/
theorem sectionOut_eq (c : Coeffs) (st : SectionState) (x : Int) :
    sectionOut c st x = max (-8388608) (min 8388607
      ((c.b0 * x + c.b1 * st.x1 + c.b2 * st.x2 - c.a1 * st.y1 - c.a2 * st.y2 + 2097152).fdiv 4194304)) := by
  rw [sectionOut, sat24_eq, Int.fdiv_eq_ediv_of_nonneg _ (by norm_num)]

theorem clampTo_bounds {lo hi : Int} (h : lo ≤ hi) (x : Int) :
    lo ≤ clampTo lo hi x ∧ clampTo lo hi x ≤ hi := by
  unfold clampTo; split_ifs <;> omega

theorem clampNat_bounds {lo hi : Nat} (h : lo ≤ hi) (x : Nat) :
    lo ≤ clampNat lo hi x ∧ clampNat lo hi x ≤ hi := by
  unfold clampNat; split_ifs <;> omega

/-- A clamp changes a value exactly when it lies outside. -/
theorem clampTo_ne_iff {lo hi : Int} (_h : lo ≤ hi) (x : Int) : clampTo lo hi x ≠ x ↔ x < lo ∨ hi < x := by
  unfold clampTo; split_ifs <;> omega

theorem clampNat_ne_iff {lo hi : Nat} (_h : lo ≤ hi) (x : Nat) :
    clampNat lo hi x ≠ x ↔ x < lo ∨ hi < x := by
  unfold clampNat; split_ifs <;> omega

theorem clampChanges_iff {lo hi : Int} (h : lo ≤ hi) (o : Option Int) :
    clampChanges lo hi o = true ↔ ∃ x, o = some x ∧ (x < lo ∨ hi < x) := by
  cases o with
  | none => simp [clampChanges]
  | some x =>
    have := clampTo_ne_iff h x
    simp only [clampChanges, decide_eq_true_eq, this, Option.some.injEq, exists_eq_left']

@[simp] theorem finOf_val {n : Nat} (i : Fin n) : finOf n i.val = some i := by simp [finOf]

theorem finOf_eq_some {n m : Nat} {i : Fin n} : finOf n m = some i ↔ i.val = m := by
  unfold finOf; split_ifs with h
  · simp [Fin.ext_iff, eq_comm]
  · simp; omega

theorem finOf_eq_none {n m : Nat} : finOf n m = none ↔ n ≤ m := by
  unfold finOf; split_ifs <;> simp <;> omega

/-- A count of one: a stopped timer stays stopped, and a running one above 1 runs on. -/
theorem countDown_cases (o : Option Nat) :
    (o = none ∧ countDown o = none ∧ expiresNext o = false)
    ∨ (∃ n, o = some n ∧ n ≤ 1 ∧ countDown o = none ∧ expiresNext o = true)
    ∨ ∃ n, o = some n ∧ 1 < n ∧ countDown o = some (n - 1) ∧ expiresNext o = false := by
  match o with
  | none => simp [countDown, expiresNext]
  | some 0 => simp [countDown, expiresNext]
  | some 1 => simp [countDown, expiresNext]
  | some (n + 2) => simp [countDown, expiresNext]

@[simp] theorem countDown_none : countDown none = none := rfl
@[simp] theorem expiresNext_none : expiresNext none = false := rfl
@[simp] theorem expiresNext_one : expiresNext (some 1) = true := rfl
@[simp] theorem countDown_one : countDown (some 1) = none := rfl

theorem expiresNext_large {n : Nat} (h : 1 < n) : expiresNext (some n) = false := by
  simp [expiresNext]; omega

theorem countDown_large {n : Nat} (h : 1 < n) : countDown (some n) = some (n - 1) := by
  match n with
  | n + 2 => rfl

end Sys2Proof.Machine
end

