-- ==== Sys2Proof/Laws/State.lean ====
section
/-! SUPPORT. What the named updates of the state leave alone: one law per field per update. -/
namespace Sys2Proof.Machine

/-! raise -/
@[simp] theorem State.raise_pending (s : State) (l : LaneId) (k : Notice) (h : Option Handle) : (s.raise l k h).pending = s.pending := rfl
@[simp] theorem State.raise_free (s : State) (l : LaneId) (k : Notice) (h : Option Handle) : (s.raise l k h).free = s.free := rfl
@[simp] theorem State.raise_pins (s : State) (l : LaneId) (k : Notice) (h : Option Handle) : (s.raise l k h).pins = s.pins := rfl
@[simp] theorem State.raise_ctl (s : State) (l : LaneId) (k : Notice) (h : Option Handle) : (s.raise l k h).ctl = s.ctl := rfl
@[simp] theorem State.raise_cabin (s : State) (l : LaneId) (k : Notice) (h : Option Handle) : (s.raise l k h).cabin = s.cabin := rfl
@[simp] theorem State.raise_table (s : State) (l : LaneId) (k : Notice) (h : Option Handle) : (s.raise l k h).table = s.table := rfl
@[simp] theorem State.raise_prec (s : State) (l : LaneId) (k : Notice) (h : Option Handle) : (s.raise l k h).prec = s.prec := rfl
@[simp] theorem State.raise_speed (s : State) (l : LaneId) (k : Notice) (h : Option Handle) : (s.raise l k h).speed = s.speed := rfl
@[simp] theorem State.raise_grid (s : State) (l : LaneId) (k : Notice) (h : Option Handle) : (s.raise l k h).grid = s.grid := rfl
@[simp] theorem State.raise_ramps (s : State) (l : LaneId) (k : Notice) (h : Option Handle) : (s.raise l k h).ramps = s.ramps := rfl
@[simp] theorem State.raise_mixer (s : State) (l : LaneId) (k : Notice) (h : Option Handle) : (s.raise l k h).mixer = s.mixer := rfl
@[simp] theorem State.raise_eq (s : State) (l : LaneId) (k : Notice) (h : Option Handle) : (s.raise l k h).eq = s.eq := rfl
@[simp] theorem State.raise_prot (s : State) (l : LaneId) (k : Notice) (h : Option Handle) : (s.raise l k h).prot = s.prot := rfl
@[simp] theorem State.raise_queue (s : State) (l : LaneId) (k : Notice) (h : Option Handle) : (s.raise l k h).link.queue = s.link.queue := rfl
@[simp] theorem State.raise_limits (s : State) (l : LaneId) (k : Notice) (h : Option Handle) : (s.raise l k h).link.limits = s.link.limits := rfl
@[simp] theorem State.raise_capture (s : State) (l : LaneId) (k : Notice) (h : Option Handle) : (s.raise l k h).link.capture = s.link.capture := rfl
@[simp] theorem State.raise_laterErrors (s : State) (l : LaneId) (k : Notice) (h : Option Handle) : (s.raise l k h).link.laterErrors = s.link.laterErrors := rfl
@[simp] theorem State.raise_linkErr (s : State) (l : LaneId) (k : Notice) (h : Option Handle) : (s.raise l k h).link.linkErr = s.link.linkErr := rfl
@[simp] theorem State.raise_overrun (s : State) (l : LaneId) (k : Notice) (h : Option Handle) : (s.raise l k h).link.overrun = s.link.overrun := rfl
@[simp] theorem State.raise_window (s : State) (l : LaneId) (k : Notice) (h : Option Handle) : (s.raise l k h).link.window = s.link.window := rfl
@[simp] theorem State.raise_sdo (s : State) (l : LaneId) (k : Notice) (h : Option Handle) : (s.raise l k h).link.sdo = s.link.sdo := rfl

/-! queueResponse -/
@[simp] theorem State.queueResponse_pending (s : State) (r : Response) : (s.queueResponse r).pending = s.pending := rfl
@[simp] theorem State.queueResponse_free (s : State) (r : Response) : (s.queueResponse r).free = s.free := rfl
@[simp] theorem State.queueResponse_pins (s : State) (r : Response) : (s.queueResponse r).pins = s.pins := rfl
@[simp] theorem State.queueResponse_ctl (s : State) (r : Response) : (s.queueResponse r).ctl = s.ctl := rfl
@[simp] theorem State.queueResponse_cabin (s : State) (r : Response) : (s.queueResponse r).cabin = s.cabin := rfl
@[simp] theorem State.queueResponse_table (s : State) (r : Response) : (s.queueResponse r).table = s.table := rfl
@[simp] theorem State.queueResponse_prec (s : State) (r : Response) : (s.queueResponse r).prec = s.prec := rfl
@[simp] theorem State.queueResponse_speed (s : State) (r : Response) : (s.queueResponse r).speed = s.speed := rfl
@[simp] theorem State.queueResponse_grid (s : State) (r : Response) : (s.queueResponse r).grid = s.grid := rfl
@[simp] theorem State.queueResponse_ramps (s : State) (r : Response) : (s.queueResponse r).ramps = s.ramps := rfl
@[simp] theorem State.queueResponse_mixer (s : State) (r : Response) : (s.queueResponse r).mixer = s.mixer := rfl
@[simp] theorem State.queueResponse_eq (s : State) (r : Response) : (s.queueResponse r).eq = s.eq := rfl
@[simp] theorem State.queueResponse_prot (s : State) (r : Response) : (s.queueResponse r).prot = s.prot := rfl
@[simp] theorem State.queueResponse_notices (s : State) (r : Response) : (s.queueResponse r).link.notices = s.link.notices := rfl
@[simp] theorem State.queueResponse_limits (s : State) (r : Response) : (s.queueResponse r).link.limits = s.link.limits := rfl
@[simp] theorem State.queueResponse_capture (s : State) (r : Response) : (s.queueResponse r).link.capture = s.link.capture := rfl
@[simp] theorem State.queueResponse_laterErrors (s : State) (r : Response) : (s.queueResponse r).link.laterErrors = s.link.laterErrors := rfl
@[simp] theorem State.queueResponse_linkErr (s : State) (r : Response) : (s.queueResponse r).link.linkErr = s.link.linkErr := rfl
@[simp] theorem State.queueResponse_overrun (s : State) (r : Response) : (s.queueResponse r).link.overrun = s.link.overrun := rfl
@[simp] theorem State.queueResponse_window (s : State) (r : Response) : (s.queueResponse r).link.window = s.link.window := rfl
@[simp] theorem State.queueResponse_sdo (s : State) (r : Response) : (s.queueResponse r).link.sdo = s.link.sdo := rfl

/-! endWindow -/
@[simp] theorem State.endWindow_pending (s : State) (b : Byte) (h : Option Response) (n : Nat) : (s.endWindow b h n).pending = s.pending := rfl
@[simp] theorem State.endWindow_free (s : State) (b : Byte) (h : Option Response) (n : Nat) : (s.endWindow b h n).free = s.free := rfl
@[simp] theorem State.endWindow_pins (s : State) (b : Byte) (h : Option Response) (n : Nat) : (s.endWindow b h n).pins = s.pins := rfl
@[simp] theorem State.endWindow_ctl (s : State) (b : Byte) (h : Option Response) (n : Nat) : (s.endWindow b h n).ctl = s.ctl := rfl
@[simp] theorem State.endWindow_cabin (s : State) (b : Byte) (h : Option Response) (n : Nat) : (s.endWindow b h n).cabin = s.cabin := rfl
@[simp] theorem State.endWindow_table (s : State) (b : Byte) (h : Option Response) (n : Nat) : (s.endWindow b h n).table = s.table := rfl
@[simp] theorem State.endWindow_prec (s : State) (b : Byte) (h : Option Response) (n : Nat) : (s.endWindow b h n).prec = s.prec := rfl
@[simp] theorem State.endWindow_speed (s : State) (b : Byte) (h : Option Response) (n : Nat) : (s.endWindow b h n).speed = s.speed := rfl
@[simp] theorem State.endWindow_grid (s : State) (b : Byte) (h : Option Response) (n : Nat) : (s.endWindow b h n).grid = s.grid := rfl
@[simp] theorem State.endWindow_ramps (s : State) (b : Byte) (h : Option Response) (n : Nat) : (s.endWindow b h n).ramps = s.ramps := rfl
@[simp] theorem State.endWindow_mixer (s : State) (b : Byte) (h : Option Response) (n : Nat) : (s.endWindow b h n).mixer = s.mixer := rfl
@[simp] theorem State.endWindow_eq (s : State) (b : Byte) (h : Option Response) (n : Nat) : (s.endWindow b h n).eq = s.eq := rfl
@[simp] theorem State.endWindow_prot (s : State) (b : Byte) (h : Option Response) (n : Nat) : (s.endWindow b h n).prot = s.prot := rfl
@[simp] theorem State.endWindow_notices (s : State) (b : Byte) (h : Option Response) (n : Nat) : (s.endWindow b h n).link.notices = s.link.notices := rfl
@[simp] theorem State.endWindow_limits (s : State) (b : Byte) (h : Option Response) (n : Nat) : (s.endWindow b h n).link.limits = s.link.limits := rfl
@[simp] theorem State.endWindow_capture (s : State) (b : Byte) (h : Option Response) (n : Nat) : (s.endWindow b h n).link.capture = s.link.capture := rfl
@[simp] theorem State.endWindow_laterErrors (s : State) (b : Byte) (h : Option Response) (n : Nat) : (s.endWindow b h n).link.laterErrors = s.link.laterErrors := rfl
@[simp] theorem State.endWindow_linkErr (s : State) (b : Byte) (h : Option Response) (n : Nat) : (s.endWindow b h n).link.linkErr = s.link.linkErr := rfl
@[simp] theorem State.endWindow_overrun (s : State) (b : Byte) (h : Option Response) (n : Nat) : (s.endWindow b h n).link.overrun = s.link.overrun := rfl

/-! dropWindow -/
@[simp] theorem State.dropWindow_pending (s : State) : (s.dropWindow).pending = s.pending := rfl
@[simp] theorem State.dropWindow_free (s : State) : (s.dropWindow).free = s.free := rfl
@[simp] theorem State.dropWindow_pins (s : State) : (s.dropWindow).pins = s.pins := rfl
@[simp] theorem State.dropWindow_ctl (s : State) : (s.dropWindow).ctl = s.ctl := rfl
@[simp] theorem State.dropWindow_cabin (s : State) : (s.dropWindow).cabin = s.cabin := rfl
@[simp] theorem State.dropWindow_table (s : State) : (s.dropWindow).table = s.table := rfl
@[simp] theorem State.dropWindow_prec (s : State) : (s.dropWindow).prec = s.prec := rfl
@[simp] theorem State.dropWindow_speed (s : State) : (s.dropWindow).speed = s.speed := rfl
@[simp] theorem State.dropWindow_grid (s : State) : (s.dropWindow).grid = s.grid := rfl
@[simp] theorem State.dropWindow_ramps (s : State) : (s.dropWindow).ramps = s.ramps := rfl
@[simp] theorem State.dropWindow_mixer (s : State) : (s.dropWindow).mixer = s.mixer := rfl
@[simp] theorem State.dropWindow_eq (s : State) : (s.dropWindow).eq = s.eq := rfl
@[simp] theorem State.dropWindow_prot (s : State) : (s.dropWindow).prot = s.prot := rfl
@[simp] theorem State.dropWindow_queue (s : State) : (s.dropWindow).link.queue = s.link.queue := rfl
@[simp] theorem State.dropWindow_notices (s : State) : (s.dropWindow).link.notices = s.link.notices := rfl
@[simp] theorem State.dropWindow_limits (s : State) : (s.dropWindow).link.limits = s.link.limits := rfl
@[simp] theorem State.dropWindow_capture (s : State) : (s.dropWindow).link.capture = s.link.capture := rfl
@[simp] theorem State.dropWindow_laterErrors (s : State) : (s.dropWindow).link.laterErrors = s.link.laterErrors := rfl
@[simp] theorem State.dropWindow_linkErr (s : State) : (s.dropWindow).link.linkErr = s.link.linkErr := rfl
@[simp] theorem State.dropWindow_overrun (s : State) : (s.dropWindow).link.overrun = s.link.overrun := rfl

/-! setRoute -/
@[simp] theorem State.setRoute_pending (s : State) (i : SlotId) (r : Option Route) : (s.setRoute i r).pending = s.pending := rfl
@[simp] theorem State.setRoute_free (s : State) (i : SlotId) (r : Option Route) : (s.setRoute i r).free = s.free := rfl
@[simp] theorem State.setRoute_pins (s : State) (i : SlotId) (r : Option Route) : (s.setRoute i r).pins = s.pins := rfl
@[simp] theorem State.setRoute_ctl (s : State) (i : SlotId) (r : Option Route) : (s.setRoute i r).ctl = s.ctl := rfl
@[simp] theorem State.setRoute_cabin (s : State) (i : SlotId) (r : Option Route) : (s.setRoute i r).cabin = s.cabin := rfl
@[simp] theorem State.setRoute_prec (s : State) (i : SlotId) (r : Option Route) : (s.setRoute i r).prec = s.prec := rfl
@[simp] theorem State.setRoute_speed (s : State) (i : SlotId) (r : Option Route) : (s.setRoute i r).speed = s.speed := rfl
@[simp] theorem State.setRoute_grid (s : State) (i : SlotId) (r : Option Route) : (s.setRoute i r).grid = s.grid := rfl
@[simp] theorem State.setRoute_ramps (s : State) (i : SlotId) (r : Option Route) : (s.setRoute i r).ramps = s.ramps := rfl
@[simp] theorem State.setRoute_mixer (s : State) (i : SlotId) (r : Option Route) : (s.setRoute i r).mixer = s.mixer := rfl
@[simp] theorem State.setRoute_eq (s : State) (i : SlotId) (r : Option Route) : (s.setRoute i r).eq = s.eq := rfl
@[simp] theorem State.setRoute_prot (s : State) (i : SlotId) (r : Option Route) : (s.setRoute i r).prot = s.prot := rfl
@[simp] theorem State.setRoute_link (s : State) (i : SlotId) (r : Option Route) : (s.setRoute i r).link = s.link := rfl

/-! freeSlot -/
@[simp] theorem State.freeSlot_pending (s : State) (i : SlotId) : (s.freeSlot i).pending = s.pending := rfl
@[simp] theorem State.freeSlot_free (s : State) (i : SlotId) : (s.freeSlot i).free = s.free := rfl
@[simp] theorem State.freeSlot_pins (s : State) (i : SlotId) : (s.freeSlot i).pins = s.pins := rfl
@[simp] theorem State.freeSlot_ctl (s : State) (i : SlotId) : (s.freeSlot i).ctl = s.ctl := rfl
@[simp] theorem State.freeSlot_cabin (s : State) (i : SlotId) : (s.freeSlot i).cabin = s.cabin := rfl
@[simp] theorem State.freeSlot_speed (s : State) (i : SlotId) : (s.freeSlot i).speed = s.speed := rfl
@[simp] theorem State.freeSlot_grid (s : State) (i : SlotId) : (s.freeSlot i).grid = s.grid := rfl
@[simp] theorem State.freeSlot_ramps (s : State) (i : SlotId) : (s.freeSlot i).ramps = s.ramps := rfl
@[simp] theorem State.freeSlot_mixer (s : State) (i : SlotId) : (s.freeSlot i).mixer = s.mixer := rfl
@[simp] theorem State.freeSlot_eq (s : State) (i : SlotId) : (s.freeSlot i).eq = s.eq := rfl
@[simp] theorem State.freeSlot_prot (s : State) (i : SlotId) : (s.freeSlot i).prot = s.prot := rfl
@[simp] theorem State.freeSlot_link (s : State) (i : SlotId) : (s.freeSlot i).link = s.link := rfl

/-! setProt -/
@[simp] theorem State.setProt_pending (s : State) (sp : SpeakerId) (f : SpeakerProt → SpeakerProt) : (s.setProt sp f).pending = s.pending := rfl
@[simp] theorem State.setProt_free (s : State) (sp : SpeakerId) (f : SpeakerProt → SpeakerProt) : (s.setProt sp f).free = s.free := rfl
@[simp] theorem State.setProt_pins (s : State) (sp : SpeakerId) (f : SpeakerProt → SpeakerProt) : (s.setProt sp f).pins = s.pins := rfl
@[simp] theorem State.setProt_ctl (s : State) (sp : SpeakerId) (f : SpeakerProt → SpeakerProt) : (s.setProt sp f).ctl = s.ctl := rfl
@[simp] theorem State.setProt_cabin (s : State) (sp : SpeakerId) (f : SpeakerProt → SpeakerProt) : (s.setProt sp f).cabin = s.cabin := rfl
@[simp] theorem State.setProt_table (s : State) (sp : SpeakerId) (f : SpeakerProt → SpeakerProt) : (s.setProt sp f).table = s.table := rfl
@[simp] theorem State.setProt_prec (s : State) (sp : SpeakerId) (f : SpeakerProt → SpeakerProt) : (s.setProt sp f).prec = s.prec := rfl
@[simp] theorem State.setProt_speed (s : State) (sp : SpeakerId) (f : SpeakerProt → SpeakerProt) : (s.setProt sp f).speed = s.speed := rfl
@[simp] theorem State.setProt_grid (s : State) (sp : SpeakerId) (f : SpeakerProt → SpeakerProt) : (s.setProt sp f).grid = s.grid := rfl
@[simp] theorem State.setProt_ramps (s : State) (sp : SpeakerId) (f : SpeakerProt → SpeakerProt) : (s.setProt sp f).ramps = s.ramps := rfl
@[simp] theorem State.setProt_mixer (s : State) (sp : SpeakerId) (f : SpeakerProt → SpeakerProt) : (s.setProt sp f).mixer = s.mixer := rfl
@[simp] theorem State.setProt_eq (s : State) (sp : SpeakerId) (f : SpeakerProt → SpeakerProt) : (s.setProt sp f).eq = s.eq := rfl
@[simp] theorem State.setProt_link (s : State) (sp : SpeakerId) (f : SpeakerProt → SpeakerProt) : (s.setProt sp f).link = s.link := rfl

/-! closeGate -/
@[simp] theorem State.closeGate_pending (s : State) (sp : SpeakerId) : (s.closeGate sp).pending = s.pending := rfl
@[simp] theorem State.closeGate_free (s : State) (sp : SpeakerId) : (s.closeGate sp).free = s.free := rfl
@[simp] theorem State.closeGate_pins (s : State) (sp : SpeakerId) : (s.closeGate sp).pins = s.pins := rfl
@[simp] theorem State.closeGate_ctl (s : State) (sp : SpeakerId) : (s.closeGate sp).ctl = s.ctl := rfl
@[simp] theorem State.closeGate_cabin (s : State) (sp : SpeakerId) : (s.closeGate sp).cabin = s.cabin := rfl
@[simp] theorem State.closeGate_table (s : State) (sp : SpeakerId) : (s.closeGate sp).table = s.table := rfl
@[simp] theorem State.closeGate_prec (s : State) (sp : SpeakerId) : (s.closeGate sp).prec = s.prec := rfl
@[simp] theorem State.closeGate_speed (s : State) (sp : SpeakerId) : (s.closeGate sp).speed = s.speed := rfl
@[simp] theorem State.closeGate_grid (s : State) (sp : SpeakerId) : (s.closeGate sp).grid = s.grid := rfl
@[simp] theorem State.closeGate_ramps (s : State) (sp : SpeakerId) : (s.closeGate sp).ramps = s.ramps := rfl
@[simp] theorem State.closeGate_link (s : State) (sp : SpeakerId) : (s.closeGate sp).link = s.link := rfl

/-! reportTrip -/
@[simp] theorem State.reportTrip_pending (s : State) : (s.reportTrip).pending = s.pending := rfl
@[simp] theorem State.reportTrip_free (s : State) : (s.reportTrip).free = s.free := rfl
@[simp] theorem State.reportTrip_pins (s : State) : (s.reportTrip).pins = s.pins := rfl
@[simp] theorem State.reportTrip_ctl (s : State) : (s.reportTrip).ctl = s.ctl := rfl
@[simp] theorem State.reportTrip_cabin (s : State) : (s.reportTrip).cabin = s.cabin := rfl
@[simp] theorem State.reportTrip_table (s : State) : (s.reportTrip).table = s.table := rfl
@[simp] theorem State.reportTrip_prec (s : State) : (s.reportTrip).prec = s.prec := rfl
@[simp] theorem State.reportTrip_speed (s : State) : (s.reportTrip).speed = s.speed := rfl
@[simp] theorem State.reportTrip_grid (s : State) : (s.reportTrip).grid = s.grid := rfl
@[simp] theorem State.reportTrip_ramps (s : State) : (s.reportTrip).ramps = s.ramps := rfl
@[simp] theorem State.reportTrip_mixer (s : State) : (s.reportTrip).mixer = s.mixer := rfl
@[simp] theorem State.reportTrip_eq (s : State) : (s.reportTrip).eq = s.eq := rfl
@[simp] theorem State.reportTrip_queue (s : State) : (s.reportTrip).link.queue = s.link.queue := rfl
@[simp] theorem State.reportTrip_limits (s : State) : (s.reportTrip).link.limits = s.link.limits := rfl
@[simp] theorem State.reportTrip_capture (s : State) : (s.reportTrip).link.capture = s.link.capture := rfl
@[simp] theorem State.reportTrip_laterErrors (s : State) : (s.reportTrip).link.laterErrors = s.link.laterErrors := rfl
@[simp] theorem State.reportTrip_linkErr (s : State) : (s.reportTrip).link.linkErr = s.link.linkErr := rfl
@[simp] theorem State.reportTrip_overrun (s : State) : (s.reportTrip).link.overrun = s.link.overrun := rfl
@[simp] theorem State.reportTrip_window (s : State) : (s.reportTrip).link.window = s.link.window := rfl
@[simp] theorem State.reportTrip_sdo (s : State) : (s.reportTrip).link.sdo = s.link.sdo := rfl
@[simp] theorem State.raise_notices (s : State) (l : LaneId) (k : Notice) (h : Option Handle) :
    (s.raise l k h).link.notices = upd s.link.notices l fun ns => ns.add k h := rfl
@[simp] theorem State.queueResponse_queue (s : State) (r : Response) :
    (s.queueResponse r).link.queue = s.link.queue ++ [r] := rfl
@[simp] theorem State.setRoute_order (s : State) (i : SlotId) (r : Option Route) :
    (s.setRoute i r).table.order = s.table.order := rfl
@[simp] theorem State.setRoute_quotas (s : State) (i : SlotId) (r : Option Route) :
    (s.setRoute i r).table.quotas = s.table.quotas := rfl
@[simp] theorem State.setRoute_report (s : State) (i : SlotId) (r : Option Route) :
    (s.setRoute i r).table.report = s.table.report := rfl
@[simp] theorem State.freeSlot_duck (s : State) (i : SlotId) : (s.freeSlot i).prec.duck = s.prec.duck := rfl
@[simp] theorem State.freeSlot_quotas (s : State) (i : SlotId) :
    (s.freeSlot i).table.quotas = s.table.quotas := rfl
@[simp] theorem State.freeSlot_report (s : State) (i : SlotId) :
    (s.freeSlot i).table.report = s.table.report := rfl

/-- The route of a slot after a route is written. -/
theorem State.setRoute_routeAt (s : State) (i j : SlotId) (r : Option Route) :
    (s.setRoute i r).routeAt j = if j = i then r else s.routeAt j := by
  simp only [State.routeAt, State.setRoute, upd_get]; split_ifs <;> rfl

/-- A written route keeps every generation. -/
theorem State.setRoute_handleAt (s : State) (i j : SlotId) (r : Option Route) :
    (s.setRoute i r).handleAt j = s.handleAt j := by
  simp only [State.handleAt, State.setRoute, upd_get]; split_ifs <;> rfl

@[simp] theorem State.raise_routeAt (s : State) (l : LaneId) (k : Notice) (h : Option Handle) (i : SlotId) :
    (s.raise l k h).routeAt i = s.routeAt i := rfl
@[simp] theorem State.raise_handleAt (s : State) (l : LaneId) (k : Notice) (h : Option Handle) (i : SlotId) :
    (s.raise l k h).handleAt i = s.handleAt i := rfl

/-- A raised kind stands in its lane's set afterwards. -/
theorem State.raise_stands (s : State) (l : LaneId) (k : Notice) (h : Option Handle) :
    ((s.raise l k h).link.notices[l]).kinds[k.index] = true := by
  simp [NoticeSet.add]

/-- Raising removes no notice. -/
theorem State.raise_kept (s : State) (l : LaneId) (k : Notice) (h : Option Handle) :
    NoticesKept s.link.notices (s.raise l k h).link.notices := by
  intro lane n hn
  simp only [State.raise_notices, upd_get]
  split_ifs with e
  · subst e
    simp only [NoticeSet.add, upd_get]
    split_ifs <;> first | rfl | exact hn
  · exact hn

theorem NoticesKept.refl (a : Vector NoticeSet 4) : NoticesKept a a := fun _ _ h => h

theorem NoticesKept.trans {a b c : Vector NoticeSet 4} (h : NoticesKept a b) (h' : NoticesKept b c) :
    NoticesKept a c := fun l k e => h' l k (h l k e)

theorem State.raiseFor_cons_some (s : State) (k : Notice) (i : SlotId) (rest : List SlotId) (r : Route)
    (h : s.routeAt i = some r) :
    s.raiseFor k (i :: rest) = (s.raise r.owner k (some (s.handleAt i))).raiseFor k rest := by
  simp [State.raiseFor, h]

theorem State.raiseFor_cons_none (s : State) (k : Notice) (i : SlotId) (rest : List SlotId)
    (h : s.routeAt i = none) : s.raiseFor k (i :: rest) = s.raiseFor k rest := by
  simp [State.raiseFor, h]

/-- Raising route notices for slots changes the notice sets alone, and removes none. -/
theorem State.raiseFor_frame (k : Notice) (l : List SlotId) (s : State) :
    ∃ ns, s.raiseFor k l = { s with link := { s.link with notices := ns } }
      ∧ NoticesKept s.link.notices ns := by
  induction l generalizing s with
  | nil => exact ⟨s.link.notices, rfl, NoticesKept.refl _⟩
  | cons i rest ih =>
    unfold State.raiseFor
    split
    · next r _ =>
      obtain ⟨ns, e, h⟩ := ih (s.raise r.owner k (some (s.handleAt i)))
      exact ⟨ns, e, (State.raise_kept s _ _ _).trans h⟩
    · exact ih s

@[simp] theorem State.raiseFor_pending (s : State) (k : Notice) (l : List SlotId) : (s.raiseFor k l).pending = s.pending := by
  obtain ⟨ns, e, -⟩ := State.raiseFor_frame k l s; rw [e]
@[simp] theorem State.raiseFor_free (s : State) (k : Notice) (l : List SlotId) : (s.raiseFor k l).free = s.free := by
  obtain ⟨ns, e, -⟩ := State.raiseFor_frame k l s; rw [e]
@[simp] theorem State.raiseFor_pins (s : State) (k : Notice) (l : List SlotId) : (s.raiseFor k l).pins = s.pins := by
  obtain ⟨ns, e, -⟩ := State.raiseFor_frame k l s; rw [e]
@[simp] theorem State.raiseFor_ctl (s : State) (k : Notice) (l : List SlotId) : (s.raiseFor k l).ctl = s.ctl := by
  obtain ⟨ns, e, -⟩ := State.raiseFor_frame k l s; rw [e]
@[simp] theorem State.raiseFor_cabin (s : State) (k : Notice) (l : List SlotId) : (s.raiseFor k l).cabin = s.cabin := by
  obtain ⟨ns, e, -⟩ := State.raiseFor_frame k l s; rw [e]
@[simp] theorem State.raiseFor_table (s : State) (k : Notice) (l : List SlotId) : (s.raiseFor k l).table = s.table := by
  obtain ⟨ns, e, -⟩ := State.raiseFor_frame k l s; rw [e]
@[simp] theorem State.raiseFor_prec (s : State) (k : Notice) (l : List SlotId) : (s.raiseFor k l).prec = s.prec := by
  obtain ⟨ns, e, -⟩ := State.raiseFor_frame k l s; rw [e]
@[simp] theorem State.raiseFor_speed (s : State) (k : Notice) (l : List SlotId) : (s.raiseFor k l).speed = s.speed := by
  obtain ⟨ns, e, -⟩ := State.raiseFor_frame k l s; rw [e]
@[simp] theorem State.raiseFor_grid (s : State) (k : Notice) (l : List SlotId) : (s.raiseFor k l).grid = s.grid := by
  obtain ⟨ns, e, -⟩ := State.raiseFor_frame k l s; rw [e]
@[simp] theorem State.raiseFor_ramps (s : State) (k : Notice) (l : List SlotId) : (s.raiseFor k l).ramps = s.ramps := by
  obtain ⟨ns, e, -⟩ := State.raiseFor_frame k l s; rw [e]
@[simp] theorem State.raiseFor_mixer (s : State) (k : Notice) (l : List SlotId) : (s.raiseFor k l).mixer = s.mixer := by
  obtain ⟨ns, e, -⟩ := State.raiseFor_frame k l s; rw [e]
@[simp] theorem State.raiseFor_eq (s : State) (k : Notice) (l : List SlotId) : (s.raiseFor k l).eq = s.eq := by
  obtain ⟨ns, e, -⟩ := State.raiseFor_frame k l s; rw [e]
@[simp] theorem State.raiseFor_prot (s : State) (k : Notice) (l : List SlotId) : (s.raiseFor k l).prot = s.prot := by
  obtain ⟨ns, e, -⟩ := State.raiseFor_frame k l s; rw [e]
@[simp] theorem State.raiseFor_queue (s : State) (k : Notice) (l : List SlotId) : (s.raiseFor k l).link.queue = s.link.queue := by
  obtain ⟨ns, e, -⟩ := State.raiseFor_frame k l s; rw [e]
@[simp] theorem State.raiseFor_limits (s : State) (k : Notice) (l : List SlotId) : (s.raiseFor k l).link.limits = s.link.limits := by
  obtain ⟨ns, e, -⟩ := State.raiseFor_frame k l s; rw [e]
@[simp] theorem State.raiseFor_capture (s : State) (k : Notice) (l : List SlotId) : (s.raiseFor k l).link.capture = s.link.capture := by
  obtain ⟨ns, e, -⟩ := State.raiseFor_frame k l s; rw [e]
@[simp] theorem State.raiseFor_laterErrors (s : State) (k : Notice) (l : List SlotId) : (s.raiseFor k l).link.laterErrors = s.link.laterErrors := by
  obtain ⟨ns, e, -⟩ := State.raiseFor_frame k l s; rw [e]
@[simp] theorem State.raiseFor_linkErr (s : State) (k : Notice) (l : List SlotId) : (s.raiseFor k l).link.linkErr = s.link.linkErr := by
  obtain ⟨ns, e, -⟩ := State.raiseFor_frame k l s; rw [e]
@[simp] theorem State.raiseFor_overrun (s : State) (k : Notice) (l : List SlotId) : (s.raiseFor k l).link.overrun = s.link.overrun := by
  obtain ⟨ns, e, -⟩ := State.raiseFor_frame k l s; rw [e]
@[simp] theorem State.raiseFor_window (s : State) (k : Notice) (l : List SlotId) : (s.raiseFor k l).link.window = s.link.window := by
  obtain ⟨ns, e, -⟩ := State.raiseFor_frame k l s; rw [e]
@[simp] theorem State.raiseFor_sdo (s : State) (k : Notice) (l : List SlotId) : (s.raiseFor k l).link.sdo = s.link.sdo := by
  obtain ⟨ns, e, -⟩ := State.raiseFor_frame k l s; rw [e]

@[simp] theorem State.raiseFor_routeAt (s : State) (k : Notice) (l : List SlotId) (i : SlotId) :
    (s.raiseFor k l).routeAt i = s.routeAt i := by simp [State.routeAt]
@[simp] theorem State.raiseFor_handleAt (s : State) (k : Notice) (l : List SlotId) (i : SlotId) :
    (s.raiseFor k l).handleAt i = s.handleAt i := by simp [State.handleAt]

/-- Every slot named in the list that holds a route has raised the notice in its owner's set. -/
theorem State.raiseFor_stands (k : Notice) (l : List SlotId) (s : State) (i : SlotId) (r : Route)
    (hi : i ∈ l) (hr : s.routeAt i = some r) :
    ((s.raiseFor k l).link.notices[r.owner]).kinds[k.index] = true := by
  induction l generalizing s with
  | nil => simp at hi
  | cons j rest ih =>
    rcases List.mem_cons.mp hi with e | hi
    · subst e
      obtain ⟨ns, e, h⟩ := State.raiseFor_frame k rest (s.raise r.owner k (some (s.handleAt i)))
      have := State.raiseFor_cons_some s k i rest r hr
      rw [e] at this
      simp only [this]
      exact h _ _ (State.raise_stands s r.owner k _)
    · cases hj : s.routeAt j with
      | none =>
        have := ih s hi hr
        simp only [State.raiseFor_cons_none s k j rest hj]; exact this
      | some rj =>
        have := ih (s.raise rj.owner k (some (s.handleAt j))) hi hr
        simp only [State.raiseFor_cons_some s k j rest rj hj]; exact this

/-- Nothing raised. -/
theorem Raised.nil (s : State) (k : Notice) (a : Vector NoticeSet 4) : Raised s k (fun _ => []) a a :=
  fun lane => ⟨fun n => by simp, by simp⟩

/-- One more notice raised before others of its kind: its slot stands first for its lane. -/
theorem Raised.cons {s : State} {k : Notice} {o : LaneId} {i : SlotId} {mine rest : LaneId → List SlotId}
    {b : Vector NoticeSet 4} (h : Raised s k rest (s.raise o k (some (s.handleAt i))).link.notices b)
    (hm : ∀ lane, mine lane = if lane = o then i :: rest lane else rest lane) :
    Raised s k mine s.link.notices b := by
  intro lane
  obtain ⟨h1, h2⟩ := h lane
  rw [hm lane]
  simp only [State.raise_notices, upd_get] at h1 h2
  by_cases e : lane = o
  · subst e
    simp only [if_true] at h1 h2 ⊢
    refine ⟨fun n => ?_, ?_⟩
    · rw [h1 n]
      simp only [NoticeSet.add, upd_get]
      by_cases hn : n = k.index <;> simp [hn]
    · rw [h2]
      cases hr : rest lane with
      | nil => simp [NoticeSet.add]
      | cons j js => simp [NoticeSet.add, List.getLast?_eq_some_getLast]
  · simp only [if_neg e] at h1 h2 ⊢
    exact ⟨h1, h2⟩

/-- The notice sets after a route notice is raised for these slots in turn (R189). -/
theorem State.raiseFor_raised (k : Notice) (l : List SlotId) (s : State) :
    Raised s k (s.ownedBy l) s.link.notices (s.raiseFor k l).link.notices := by
  induction l generalizing s with
  | nil => exact Raised.nil s k _
  | cons i rest ih =>
    cases hr : s.routeAt i with
    | none =>
      rw [State.raiseFor_cons_none s k i rest hr]
      have : s.ownedBy (i :: rest) = s.ownedBy rest := by funext lane; simp [State.ownedBy, hr]
      rw [this]; exact ih s
    | some r =>
      rw [State.raiseFor_cons_some s k i rest r hr]
      refine Raised.cons (rest := s.ownedBy rest) (ih (s.raise r.owner k (some (s.handleAt i)))) fun lane => ?_
      by_cases e : lane = r.owner
      · simp [State.ownedBy, hr, e]
      · simp [State.ownedBy, hr, e, Ne.symm e]

end Sys2Proof.Machine
end

