-- ==== Sys2Proof/Laws/Link.lean ====
section
/-! SUPPORT. What a packet window can do, said once: the window's own effect, the refusals of the link
checks, and the owner's change with its answer. -/
namespace Sys2Proof.Machine

theorem State.windowFixed_eq_none_iff (s : State) :
    s.windowFixed = none ↔
      s.pins.rstAsserted = true ∨ s.ctl.mode = .standby ∨ s.link.window = .ignored := by
  unfold State.windowFixed State.takesPackets
  cases hr : s.pins.rstAsserted <;> by_cases hm : s.ctl.mode = .standby <;>
    cases hw : s.link.window <;> simp_all

/-- A taken window hands its packet the state after the head removal. -/
theorem State.takeWindow_of_opens {s u : State} {n : Nat} (h : Opens s n u) (p : State → State) :
    s.takeWindow n p = p u := by
  obtain ⟨f, hf, rfl⟩ := h
  simp [State.takeWindow, hf]

theorem State.takeWindow_untaken {s : State} (h : s.windowFixed = none) (n : Nat) (p : State → State) :
    s.takeWindow n p = s.dropWindow := by
  simp [State.takeWindow, h]

/-- A window is taken, or it is not. -/
theorem State.takeWindow_cases (s : State) (n : Nat) :
    (s.windowFixed = none ∧ ∀ p, s.takeWindow n p = s.dropWindow)
    ∨ ∃ u, Opens s n u ∧ ∀ p, s.takeWindow n p = p u := by
  cases h : s.windowFixed with
  | none => exact .inl ⟨rfl, State.takeWindow_untaken h n⟩
  | some f => exact .inr ⟨_, ⟨f, h, rfl⟩, State.takeWindow_of_opens ⟨f, h, rfl⟩⟩

/-- The head removal changes the link's window, SDO record and queue alone. -/
theorem Opens.frame {s u : State} {n : Nat} (h : Opens s n u) :
    u = { s with link := { s.link with window := .idle, sdo := u.link.sdo, queue := u.link.queue } } := by
  obtain ⟨f, -, rfl⟩ := h; rfl

/-- The queue after the head removal is the queue or its tail. -/
theorem Opens.queue {s u : State} {n : Nat} (h : Opens s n u) :
    u.link.queue = s.link.queue ∨ u.link.queue = s.link.queue.tail := by
  obtain ⟨f, -, rfl⟩ := h
  simp only [State.endWindow]; split_ifs
  · exact .inr rfl
  · exact .inl rfl

@[simp] theorem Answer.payload_plain (r : Result) (limit : Nat) : (Answer.plain r).payload limit = dataless r := by
  simp [Answer.payload, Answer.plain, dataless, cutItems, flagByte]

theorem State.answer_eq (s : State) (lane : LaneId) (code : BitVec 6) (limit : Nat) (a : Answer) :
    s.answer lane code limit a =
      { s with link := { s.link with queue := s.link.queue ++ [⟨lane, code, a.payload limit⟩] } } := rfl

theorem State.admission_overrun {s : State} {k : Kind} {w : Window} (h : 8 ≤ s.link.queue.length) :
    s.admission k w = .overrun := by simp [State.admission, h]

theorem State.admission_check {s : State} {k : Kind} {w : Window} (h : s.link.queue.length < 8)
    (hp : w.payloadFault = true) : s.admission k w = .refuse .check := by
  simp [State.admission, hp, Nat.not_le.mpr h]

theorem State.admission_denied {s : State} {k : Kind} {w : Window} (h : s.link.queue.length < 8)
    (hp : w.payloadFault = false) (hl : permitted k w.lane = false) :
    s.admission k w = .refuse .denied := by simp [State.admission, hp, hl, Nat.not_le.mpr h]

theorem State.admission_badarg {s : State} {k : Kind} {w : Window} (h : s.link.queue.length < 8)
    (hp : w.payloadFault = false) (hl : permitted k w.lane = true) (hf : readFields k w.payload = none) :
    s.admission k w = .refuse .badarg := by simp [State.admission, hp, hl, hf, Nat.not_le.mpr h]

theorem State.admission_accept {s : State} {k : Kind} {w : Window} {fs : List Field}
    (h : s.link.queue.length < 8) (hp : w.payloadFault = false) (hl : permitted k w.lane = true)
    (hf : readFields k w.payload = some fs) : s.admission k w = .accept fs := by
  simp [State.admission, hp, hl, hf, Nat.not_le.mpr h]

/-- An admitted request is its owner's change and answer. -/
theorem State.request_admitted {s u : State} {k : Kind} {w : Window} {fs : List Field}
    (h : Admits s k w fs u) (owner : Owner) :
    s.request k w owner =
      (owner w.lane fs u).1.answer w.lane k.code u.link.limits[w.lane] (owner w.lane fs u).2 := by
  obtain ⟨⟨ho, hq, hp⟩, hl, hf⟩ := h
  rw [State.request, State.takeWindow_of_opens ho, State.handle, State.admission_accept hq hp hl hf]

/-- A request that its lane may not use is answered DENIED. -/
theorem State.request_denied {s u : State} {k : Kind} {w : Window} (h : Arrives s w u)
    (hl : permitted k w.lane = false) (owner : Owner) :
    s.request k w owner = { u with link := u.replied k w (dataless .denied) } := by
  obtain ⟨ho, hq, hp⟩ := h
  rw [State.request, State.takeWindow_of_opens ho, State.handle, State.admission_denied hq hp hl]
  simp [State.answer_eq, State.replied]

/-- The kinds that only lane 0 may use. -/
def headOnly : Kind → Bool
  | .null | .getStatus | .getNotices | .setLimit | .openRoute | .query | .list | .speed | .adjust
  | .close => false
  | .setMode | .clearProtect | .setQuota | .setZone | .setMaster | .setStale | .setCrankDelay
  | .loadSpeaker | .loadCurve | .loadDuck | .loadRamp | .loadTone | .loadVoicing => true

theorem permitted_eq (k : Kind) (lane : LaneId) :
    permitted k lane = (decide (lane = 0) || !headOnly k) := by cases k <;> rfl

theorem not_permitted {k : Kind} (hk : headOnly k = true) {lane : LaneId} (h : lane ≠ 0) :
    permitted k lane = false := by simp [permitted_eq, hk, h]

/-- What the handling of a request can be: dropped, refused, or its owner's. -/
theorem State.handle_cases (s : State) (k : Kind) (w : Window) (owner : Owner) :
    s.handle k w owner = s.overrun
    ∨ (∃ r, s.link.queue.length < 8
        ∧ s.handle k w owner = { s with link := s.replied k w (dataless r) })
    ∨ ∃ fs, s.link.queue.length < 8 ∧ w.payloadFault = false ∧ permitted k w.lane = true
        ∧ readFields k w.payload = some fs
        ∧ s.handle k w owner =
          (owner w.lane fs s).1.answer w.lane k.code s.link.limits[w.lane] (owner w.lane fs s).2 := by
  rcases Nat.lt_or_ge s.link.queue.length 8 with hq | hq
  · cases hp : w.payloadFault with
    | true =>
      refine .inr (.inl ⟨.check, hq, ?_⟩)
      simp [State.handle, State.admission_check hq hp, State.answer_eq, State.replied]
    | false =>
      cases hl : permitted k w.lane with
      | false =>
        refine .inr (.inl ⟨.denied, hq, ?_⟩)
        simp [State.handle, State.admission_denied hq hp hl, State.answer_eq, State.replied]
      | true =>
        cases hf : readFields k w.payload with
        | none =>
          refine .inr (.inl ⟨.badarg, hq, ?_⟩)
          simp [State.handle, State.admission_badarg hq hp hl hf, State.answer_eq, State.replied]
        | some fs =>
          refine .inr (.inr ⟨fs, hq, rfl, rfl, rfl, ?_⟩)
          rw [State.handle, State.admission_accept hq hp hl hf]
  · left; simp [State.handle, State.admission_overrun hq]

/-- The commands that are packets. -/
def isPacket (c : Instr) : Bool := (encodeWindow c).isSome

/-- A change of the link alone that no owner made: the window, SDO and queue, OVERRUN, and the link error
capture. The notice sets and limits stand. -/
def LinkOnly (s t : State) : Prop :=
  ∃ l : Link, t = { s with link := l } ∧ l.notices = s.link.notices ∧ l.limits = s.link.limits

theorem LinkOnly.refl (s : State) : LinkOnly s s := ⟨s.link, rfl, rfl, rfl⟩

theorem LinkOnly.trans {a b c : State} (h : LinkOnly a b) (h' : LinkOnly b c) : LinkOnly a c := by
  obtain ⟨l, rfl, hn, hl⟩ := h
  obtain ⟨l', rfl, hn', hl'⟩ := h'
  exact ⟨l', rfl, hn'.trans hn, hl'.trans hl⟩

theorem Opens.linkOnly {s u : State} {n : Nat} (h : Opens s n u) : LinkOnly s u := by
  obtain ⟨f, -, rfl⟩ := h; exact ⟨_, rfl, rfl, rfl⟩

theorem State.dropWindow_linkOnly (s : State) : LinkOnly s s.dropWindow := ⟨_, rfl, rfl, rfl⟩

theorem State.captureFault_linkOnly (s : State) (sdi : List Byte) : LinkOnly s (s.captureFault sdi) := by
  unfold State.captureFault; split <;> exact ⟨_, rfl, rfl, rfl⟩

theorem State.handleUnknown_linkOnly (s : State) (code : BitVec 6) (w : Window) :
    LinkOnly s (s.handleUnknown code w) := by
  unfold State.handleUnknown; split_ifs <;> exact ⟨_, rfl, rfl, rfl⟩

/-- A request leaves the link changed alone, or is its owner's change and answer. -/
theorem State.request_law (s : State) (k : Kind) (w : Window) (owner : Owner) :
    LinkOnly s (s.request k w owner)
    ∨ ∃ fs u, Admits s k w fs u
        ∧ s.request k w owner =
          (owner w.lane fs u).1.answer w.lane k.code u.link.limits[w.lane] (owner w.lane fs u).2 := by
  rcases s.takeWindow_cases (4 + w.body.length) with ⟨-, h⟩ | ⟨u, ho, h⟩
  · left; rw [State.request, h]; exact s.dropWindow_linkOnly
  · rw [State.request, h]
    rcases u.handle_cases k w owner with e | ⟨r, -, e⟩ | ⟨fs, hq, hp, hl, hf, e⟩
    · left; rw [e]; exact ho.linkOnly.trans ⟨_, rfl, rfl, rfl⟩
    · left; rw [e]; exact ho.linkOnly.trans ⟨_, rfl, rfl, rfl⟩
    · right; exact ⟨fs, u, ⟨⟨ho, hq, hp⟩, hl, hf⟩, e⟩

/-- The meaning of a request of a kind other than NULL is the request with that kind's owner. -/
theorem exec_commandOf (k : Kind) (w : Window) (s : State) (h : k ≠ .null) :
    exec (commandOf k w) s = .next (s.request k w (ownerOf k)) := by
  cases k
  case null => exact absurd rfl h
  case setMode => unfold commandOf; dsimp only; split <;> rfl
  all_goals rfl

theorem ofCode_code (k : Kind) : Kind.ofCode k.code = some k := by cases k <;> rfl

end Sys2Proof.Machine
end

