-- ==== Sys2Proof/Laws/Packets.lean ====
section
/-! SUPPORT. What any packet command can do, said once. -/
namespace Sys2Proof.Machine

/-- Any request command is the request with its kind's owner, whatever its row. -/
theorem packet_request {c : Instr} (hc : isPacket c = true) (s : State) :
    (∃ w, c = .null w ∧ exec c s = .next (s.takeWindow (4 + w.body.length) fun s => s))
    ∨ (∃ sdi, c = .headerFault sdi)
    ∨ (∃ code w, c = .unknownKind code w)
    ∨ ∃ k w, k ≠ .null ∧ (c.wf = true → c = commandOf k w)
        ∧ exec c s = .next (s.request k w (ownerOf k)) := by
  cases c with
  | null w => exact .inl ⟨w, rfl, rfl⟩
  | headerFault sdi => exact .inr (.inl ⟨sdi, rfl⟩)
  | unknownKind code w => exact .inr (.inr (.inl ⟨code, w, rfl⟩))
  | setModeRun w =>
    refine .inr (.inr (.inr ⟨.setMode, w, by simp, ?_, rfl⟩))
    intro h
    simp only [Instr.wf, wfAction, decide_eq_true_eq] at h
    simp only [commandOf]; split <;> simp_all
  | setModeSetup w =>
    refine .inr (.inr (.inr ⟨.setMode, w, by simp, ?_, rfl⟩))
    intro h
    simp only [Instr.wf, wfAction, decide_eq_true_eq] at h
    simp [commandOf, h]
  | hushOn w =>
    refine .inr (.inr (.inr ⟨.setMode, w, by simp, ?_, rfl⟩))
    intro h
    simp only [Instr.wf, wfAction, decide_eq_true_eq] at h
    simp [commandOf, h]
  | hushOff w =>
    refine .inr (.inr (.inr ⟨.setMode, w, by simp, ?_, rfl⟩))
    intro h
    simp only [Instr.wf, wfAction, decide_eq_true_eq] at h
    simp [commandOf, h]
  | getStatus w => exact .inr (.inr (.inr ⟨.getStatus, w, by simp, fun _ => rfl, rfl⟩))
  | getNotices w => exact .inr (.inr (.inr ⟨.getNotices, w, by simp, fun _ => rfl, rfl⟩))
  | setLimit w => exact .inr (.inr (.inr ⟨.setLimit, w, by simp, fun _ => rfl, rfl⟩))
  | clearProtect w => exact .inr (.inr (.inr ⟨.clearProtect, w, by simp, fun _ => rfl, rfl⟩))
  | openRoute w => exact .inr (.inr (.inr ⟨.openRoute, w, by simp, fun _ => rfl, rfl⟩))
  | adjust w => exact .inr (.inr (.inr ⟨.adjust, w, by simp, fun _ => rfl, rfl⟩))
  | close w => exact .inr (.inr (.inr ⟨.close, w, by simp, fun _ => rfl, rfl⟩))
  | query w => exact .inr (.inr (.inr ⟨.query, w, by simp, fun _ => rfl, rfl⟩))
  | list w => exact .inr (.inr (.inr ⟨.list, w, by simp, fun _ => rfl, rfl⟩))
  | speed w => exact .inr (.inr (.inr ⟨.speed, w, by simp, fun _ => rfl, rfl⟩))
  | setStale w => exact .inr (.inr (.inr ⟨.setStale, w, by simp, fun _ => rfl, rfl⟩))
  | setMaster w => exact .inr (.inr (.inr ⟨.setMaster, w, by simp, fun _ => rfl, rfl⟩))
  | setZone w => exact .inr (.inr (.inr ⟨.setZone, w, by simp, fun _ => rfl, rfl⟩))
  | setCrankDelay w => exact .inr (.inr (.inr ⟨.setCrankDelay, w, by simp, fun _ => rfl, rfl⟩))
  | loadSpeaker w => exact .inr (.inr (.inr ⟨.loadSpeaker, w, by simp, fun _ => rfl, rfl⟩))
  | loadCurve w => exact .inr (.inr (.inr ⟨.loadCurve, w, by simp, fun _ => rfl, rfl⟩))
  | loadDuck w => exact .inr (.inr (.inr ⟨.loadDuck, w, by simp, fun _ => rfl, rfl⟩))
  | loadRamp w => exact .inr (.inr (.inr ⟨.loadRamp, w, by simp, fun _ => rfl, rfl⟩))
  | loadTone w => exact .inr (.inr (.inr ⟨.loadTone, w, by simp, fun _ => rfl, rfl⟩))
  | loadVoicing w => exact .inr (.inr (.inr ⟨.loadVoicing, w, by simp, fun _ => rfl, rfl⟩))
  | setQuota w => exact .inr (.inr (.inr ⟨.setQuota, w, by simp, fun _ => rfl, rfl⟩))
  | _ => simp [isPacket, encodeWindow] at hc

/-- A packet command changes the link alone, or is the change and answer of one kind's owner. -/
theorem packet_law {c : Instr} (hc : isPacket c = true) {s t : State} (h : exec c s = .next t) :
    LinkOnly s t
    ∨ ∃ k w fs u, k ≠ .null ∧ (c.wf = true → c = commandOf k w) ∧ Admits s k w fs u
        ∧ t = (ownerOf k w.lane fs u).1.answer w.lane k.code u.link.limits[w.lane]
            (ownerOf k w.lane fs u).2 := by
  have key : ∀ (code : BitVec 6) (w : Window) (u : State), Opens s (4 + w.body.length) u →
      LinkOnly s (u.handlePacket code w)
      ∨ ∃ k fs, k ≠ Kind.null ∧ Kind.ofCode code = some k ∧ Admits s k w fs u
          ∧ u.handlePacket code w = (ownerOf k w.lane fs u).1.answer w.lane k.code
              u.link.limits[w.lane] (ownerOf k w.lane fs u).2 := by
    intro code w u ho
    unfold State.handlePacket
    split
    · exact .inl (ho.linkOnly.trans (u.handleUnknown_linkOnly code w))
    · exact .inl ho.linkOnly
    · next k hne hk =>
      rcases u.handle_cases k w (ownerOf k) with e | ⟨r, -, e⟩ | ⟨fs, hq, hp, hl, hf, e⟩
      · left; rw [e]; exact ho.linkOnly.trans ⟨_, rfl, rfl, rfl⟩
      · left; rw [e]; exact ho.linkOnly.trans ⟨_, rfl, rfl, rfl⟩
      · exact .inr ⟨k, fs, hne, hk, ⟨⟨ho, hq, hp⟩, hl, hf⟩, e⟩
  rcases packet_request hc s with ⟨w, -, e⟩ | ⟨sdi, rfl⟩ | ⟨code, w, rfl⟩ | ⟨k, w, hk, hw, e⟩
  · left
    rw [e] at h
    cases h
    rcases s.takeWindow_cases (4 + w.body.length) with ⟨-, h⟩ | ⟨u, ho, h⟩
    · rw [h]; exact s.dropWindow_linkOnly
    · rw [h]; exact ho.linkOnly
  · cases h
    rcases s.takeWindow_cases sdi.length with ⟨-, h⟩ | ⟨u, ho, h⟩
    · left; rw [h]; exact s.dropWindow_linkOnly
    · rw [h]
      cases hh : readHeader sdi with
      | none =>
        left
        simp only [State.handleBytes, hh]
        exact ho.linkOnly.trans (u.captureFault_linkOnly sdi)
      | some hd =>
        have hlen : sdi.length = 4 + (sdi.drop 4).length := by
          unfold readHeader at hh
          split at hh
          · simp; omega
          · cases hh
        rw [hlen] at ho
        rcases key hd.code ⟨hd.lane, hd.length, sdi.drop 4⟩ u ho with h' | ⟨k, fs, hk, -, ha, h'⟩
        · left; simp only [State.handleBytes, hh]; exact h'
        · right
          refine ⟨k, ⟨hd.lane, hd.length, sdi.drop 4⟩, fs, u, hk, ?_, ha, ?_⟩
          · intro hwf; simp [Instr.wf, wfHeaderFault, hh] at hwf
          · simp only [State.handleBytes, hh]; exact h'
  · cases h
    rcases s.takeWindow_cases (4 + w.body.length) with ⟨-, h⟩ | ⟨u, ho, h⟩
    · left; rw [h]; exact s.dropWindow_linkOnly
    · rw [h]
      rcases key code w u ho with h' | ⟨k, fs, hk, hcode, ha, h'⟩
      · exact .inl h'
      · refine .inr ⟨k, w, fs, u, hk, ?_, ha, h'⟩
        intro hwf
        simp [Instr.wf, wfUnknownKind, hcode] at hwf
  · rw [e] at h
    cases h
    rcases s.request_law k w (ownerOf k) with h | ⟨fs, u, ha, h⟩
    · exact .inl h
    · exact .inr ⟨k, w, fs, u, hk, hw, ha, h⟩

/-- A property that the link has no part in, and that every owner keeps, every packet command keeps. -/
theorem packet_keeps {P : State → Prop} (hlink : ∀ (s : State) (l : Link), P s → P { s with link := l })
    (howner : ∀ k lane fs s, P s → P (ownerOf k lane fs s).1) {c : Instr} (hc : isPacket c = true)
    {s t : State} (h : exec c s = .next t) (hs : P s) : P t := by
  rcases packet_law hc h with ⟨l, rfl, -, -⟩ | ⟨k, w, fs, u, -, -, ha, rfl⟩
  · exact hlink s l hs
  · obtain ⟨l, rfl, -, -⟩ := ha.1.1.linkOnly
    exact hlink _ _ (howner k w.lane fs _ (hlink s l hs))

end Sys2Proof.Machine
end

