-- ==== Sys2Proof/Laws/Routes.lean ====
section
/-! SUPPORT. What the Route Table's shared operations do, each said once. -/
namespace Sys2Proof.Machine

/-- A handle is accepted while its slot holds a route of its generation, which is not 0 (R21). -/
theorem State.slotOf_eq_some (s : State) (n : Nat) (gen : BitVec 8) (i : SlotId) (r : Route) :
    s.slotOf (some (n, gen)) = some (i, r) ↔
      i.val = n ∧ s.routeAt i = some r ∧ gen = (s.handleAt i).gen ∧ gen ≠ 0#8 := by
  cases hf : finOf 32 n with
  | none =>
    rw [finOf_eq_none] at hf
    simp only [State.slotOf, finOf_eq_none.mpr hf, reduceCtorEq, false_iff]
    rintro ⟨e, -⟩
    have := i.isLt
    omega
  | some j =>
    have hj := finOf_eq_some.mp hf
    have hij : i.val = n → i = j := fun e => Fin.ext (e.trans hj.symm)
    cases hr : s.routeAt j with
    | none =>
      simp only [State.slotOf, hf, hr, reduceCtorEq, false_iff]
      rintro ⟨e, h, -⟩
      rw [hij e, hr] at h; cases h
    | some r' =>
      simp only [State.slotOf, hf, hr]
      split_ifs with hg
      · simp only [Option.some.injEq, Prod.mk.injEq]
        constructor
        · rintro ⟨rfl, rfl⟩; exact ⟨hj, hr, hg.1, hg.2⟩
        · rintro ⟨e, h, -⟩
          have e := hij e
          subst e; exact ⟨rfl, by simpa [hr] using h⟩
      · simp only [false_iff]
        rintro ⟨e, h, h1, h2⟩
        have e := hij e
        subst e; exact hg ⟨h1, h2⟩

theorem State.slotOf_routeAt {s : State} {h : Option (Nat × BitVec 8)} {i : SlotId} {r : Route}
    (e : s.slotOf h = some (i, r)) : s.routeAt i = some r := by
  cases h with
  | none => simp [State.slotOf] at e
  | some p => exact ((s.slotOf_eq_some p.1 p.2 i r).mp e).2.1

/-- A route's own handle is still good for a state exactly when the route is in it. -/
theorem State.stillIn_iff (s : State) (h : Handle) (st : RouteState) :
    s.stillIn h st = true ↔
      ∃ r, s.routeAt h.slot = some r ∧ h = s.handleAt h.slot ∧ h.gen ≠ 0#8 ∧ r.state = st := by
  unfold State.stillIn
  cases e : s.slotOf (some (h.slot.val, h.gen)) with
  | none =>
    simp only [Bool.false_eq_true, false_iff]
    rintro ⟨r, h1, h2, h3, -⟩
    have := (s.slotOf_eq_some h.slot.val h.gen h.slot r).mpr ⟨rfl, h1, congrArg Handle.gen h2, h3⟩
    rw [e] at this; cases this
  | some p =>
    obtain ⟨i, r⟩ := p
    obtain ⟨h1, h2, h3, h4⟩ := (s.slotOf_eq_some _ _ _ _).mp e
    have : i = h.slot := Fin.ext h1
    subst this
    simp only [decide_eq_true_eq]
    constructor
    · intro h'; exact ⟨r, h2, by rw [State.handleAt] at *; cases h; simp_all, h4, h'⟩
    · rintro ⟨r', h', -, -, hs⟩; rw [h2] at h'; cases h'; exact hs

/-- Settling changes routes alone: a route named by a handle good for OPENING becomes LIVE (R28, R29). -/
theorem State.settle_law (l : List Handle) (s : State) :
    ∃ slots, s.settle l = { s with table := { s.table with slots := slots } }
      ∧ ∀ i : SlotId, (slots[i]).gen = (s.table.slots[i]).gen
        ∧ (slots[i]).route =
          if ∃ h ∈ l, h.slot = i ∧ s.stillIn h .opening = true then
            (s.routeAt i).map fun r => { r with state := .live }
          else s.routeAt i := by
  induction l generalizing s with
  | nil => exact ⟨s.table.slots, rfl, fun i => ⟨rfl, by simp; rfl⟩⟩
  | cons h rest ih =>
    cases hs : s.stillIn h .opening with
    | false =>
      obtain ⟨slots, e, hl⟩ := ih s
      refine ⟨slots, by simp [State.settle, hs, e], fun i => ⟨(hl i).1, ?_⟩⟩
      rw [(hl i).2]
      congr 1
      simp [hs]
    | true =>
      obtain ⟨r, hr, hh, hg, hst⟩ := (s.stillIn_iff h .opening).mp hs
      obtain ⟨slots, e, hl⟩ := ih (s.setRoute h.slot (some { r with state := .live }))
      refine ⟨slots, by simp only [State.settle, hs, hr, if_true]; rw [e]; rfl, fun i => ⟨?_, ?_⟩⟩
      · rw [(hl i).1]; exact congrArg Handle.gen (s.setRoute_handleAt h.slot i _)
      · rw [(hl i).2]
        by_cases hi : i = h.slot
        · subst hi
          have hno : ¬∃ h' ∈ rest, h'.slot = h.slot
              ∧ (s.setRoute h.slot (some { r with state := .live })).stillIn h' .opening = true := by
            rintro ⟨h', -, e', hs'⟩
            obtain ⟨r', hr', -, -, hst'⟩ := (State.stillIn_iff _ _ _).mp hs'
            rw [State.setRoute_routeAt, if_pos e'] at hr'
            cases hr'; cases hst'
          rw [if_neg hno, if_pos ⟨h, by simp, rfl, hs⟩, State.setRoute_routeAt, if_pos rfl, hr]
          rfl
        · have hroute : (s.setRoute h.slot (some { r with state := .live })).routeAt i = s.routeAt i := by
            rw [State.setRoute_routeAt, if_neg hi]
          rw [hroute]
          congr 1
          apply propext
          constructor
          · rintro ⟨h', hm, e', hs'⟩
            refine ⟨h', List.mem_cons_of_mem _ hm, e', ?_⟩
            obtain ⟨r', hr', hh', hg', hst'⟩ := (State.stillIn_iff _ _ _).mp hs'
            refine (State.stillIn_iff _ _ _).mpr ⟨r', ?_, ?_, hg', hst'⟩
            · rw [e'] at hr' ⊢; rw [← hroute]; exact hr'
            · rw [State.setRoute_handleAt] at hh'; exact hh'
          · rintro ⟨h', hm, e', hs'⟩
            rcases List.mem_cons.mp hm with rfl | hm
            · exact absurd e'.symm hi
            refine ⟨h', hm, e', ?_⟩
            obtain ⟨r', hr', hh', hg', hst'⟩ := (State.stillIn_iff _ _ _).mp hs'
            refine (State.stillIn_iff _ _ _).mpr ⟨r', ?_, ?_, hg', hst'⟩
            · rw [e'] at hr' ⊢; rw [hroute]; exact hr'
            · rw [State.setRoute_handleAt]; exact hh'

/-- Freeing slots: each named slot is FREE, its generation kept, out of the list, its spill flag clear,
FREED raised to its owner in turn; nothing else changes (R31, R63). -/
theorem State.freeAll_law (l : List SlotId) (s : State) :
    ∃ slots spill ns,
      s.freeAll l =
        { s with
          table := { s.table with
            slots := slots, order := s.table.order.filter fun i => decide (i ∉ l) }
          prec := { s.prec with spill := spill }
          link := { s.link with notices := ns } }
      ∧ NoticesKept s.link.notices ns
      ∧ (∀ i : SlotId, (slots[i]).gen = (s.table.slots[i]).gen
        ∧ (slots[i]).route = (if i ∈ l then none else s.routeAt i)
        ∧ spill[i] = (if i ∈ l then false else s.prec.spill[i]))
      ∧ (l.Nodup → Raised s .freed (s.ownedBy l) s.link.notices ns) := by
  induction l generalizing s with
  | nil =>
    exact ⟨s.table.slots, s.prec.spill, s.link.notices, by simp [State.freeAll], NoticesKept.refl _,
      fun i => ⟨rfl, rfl, rfl⟩, fun _ => Raised.nil s _ _⟩
  | cons j rest ih =>
    obtain ⟨ns0, e0, k0⟩ := State.raiseFor_frame .freed [j] s
    obtain ⟨slots, spill, ns, e, k, hl, hn⟩ := ih ((s.raiseFor .freed [j]).freeSlot j)
    have hroute : ∀ i : SlotId, ((s.raiseFor .freed [j]).freeSlot j).routeAt i =
        if i = j then none else s.routeAt i := by
      intro i
      have : ((s.raiseFor .freed [j]).freeSlot j).routeAt i
          = ((s.raiseFor .freed [j]).setRoute j none).routeAt i := rfl
      rw [this, State.setRoute_routeAt, State.raiseFor_routeAt]
    have hgen : ∀ i : SlotId, (((s.raiseFor .freed [j]).freeSlot j).table.slots[i]).gen
        = (s.table.slots[i]).gen := by
      intro i
      have := congrArg Handle.gen ((s.raiseFor .freed [j]).setRoute_handleAt j i none)
      rw [State.raiseFor_handleAt] at this
      exact this
    have hspill : ∀ i : SlotId, ((s.raiseFor .freed [j]).freeSlot j).prec.spill[i]
        = if i = j then false else s.prec.spill[i] := by
      intro i
      simp only [State.freeSlot, State.setRoute_prec, State.raiseFor_prec, upd_get]
    have hns : ((s.raiseFor .freed [j]).freeSlot j).link.notices = ns0 := by
      simp only [State.freeSlot_link, e0]
    refine ⟨slots, spill, ns, ?_, ?_, fun i => ⟨?_, ?_, ?_⟩, ?_⟩
    · rw [State.freeAll, e, e0]
      simp only [State.freeSlot, State.setRoute, List.filter_filter, List.mem_cons, not_or,
        Bool.decide_and]
      congr 3
      funext x
      by_cases h1 : x = j <;> by_cases h2 : x ∈ rest <;> simp [h1, h2]
    · rw [hns] at k; exact k0.trans k
    · rw [(hl i).1, hgen]
    · rw [(hl i).2.1, hroute]; by_cases h1 : i ∈ rest <;> by_cases h2 : i = j <;> simp [h1, h2]
    · rw [(hl i).2.2, hspill]; by_cases h1 : i ∈ rest <;> by_cases h2 : i = j <;> simp [h1, h2]
    · intro hd
      obtain ⟨hj, hd⟩ := List.nodup_cons.mp hd
      have hn := hn hd
      have hown : ((s.raiseFor .freed [j]).freeSlot j).ownedBy rest = s.ownedBy rest := by
        funext lane
        refine List.filter_congr fun i hi => ?_
        rw [hroute, if_neg (by rintro rfl; exact hj hi)]
      have hhandle : ∀ i, ((s.raiseFor .freed [j]).freeSlot j).handleAt i = s.handleAt i := fun i => by
        simp only [State.handleAt, hgen]
      rw [hown] at hn
      cases hr : s.routeAt j with
      | none =>
        have h0 : ns0 = s.link.notices := by
          rw [← hns, State.freeSlot_link, State.raiseFor_cons_none s _ j [] hr]; rfl
        have : s.ownedBy (j :: rest) = s.ownedBy rest := by funext lane; simp [State.ownedBy, hr]
        intro lane
        obtain ⟨h1, h2⟩ := hn lane
        rw [hns, h0] at h1 h2
        rw [this]
        refine ⟨h1, ?_⟩
        rw [h2]; congr 1; cases (s.ownedBy rest lane).getLast? <;> simp [hhandle]
      | some r =>
        have h0 : ns0 = (s.raise r.owner .freed (some (s.handleAt j))).link.notices := by
          rw [← hns, State.freeSlot_link, State.raiseFor_cons_some s _ j [] r hr]; rfl
        refine Raised.cons (o := r.owner) (i := j) (rest := s.ownedBy rest) (fun lane => ?_) fun lane => ?_
        · obtain ⟨h1, h2⟩ := hn lane
          rw [hns, h0] at h1 h2
          refine ⟨h1, ?_⟩
          rw [h2]; congr 1; cases (s.ownedBy rest lane).getLast? <;> simp [hhandle]
        · by_cases e : lane = r.owner
          · simp [State.ownedBy, hr, e]
          · simp [State.ownedBy, hr, e, Ne.symm e]

/-- The table is empty exactly when no slot holds a route. -/
theorem RouteTable.count_eq_zero (t : RouteTable) :
    t.count = 0 ↔ ∀ i : SlotId, (t.slots[i]).route = none := by
  unfold RouteTable.count
  rw [List.countP_eq_zero]
  constructor
  · intro h i
    have := h t.slots[i] ((mem_toList_iff _ _).mpr ⟨i, rfl⟩)
    simpa using this
  · intro h a ha
    obtain ⟨i, rfl⟩ := (mem_toList_iff _ _).mp ha
    rw [h i]; simp

/-- The end of LEAVING comes with the table empty in LEAVING, and otherwise not (R44, R171). -/
theorem State.leaveIfEmpty_cases (s : State) :
    (s.ctl.mode = .leaving ∧ (∀ i : SlotId, s.routeAt i = none) ∧ s.leaveIfEmpty = s.endLeaving)
    ∨ (¬(s.ctl.mode = .leaving ∧ ∀ i : SlotId, s.routeAt i = none) ∧ s.leaveIfEmpty = s) := by
  unfold State.leaveIfEmpty
  have := s.table.count_eq_zero
  split_ifs with h
  · exact .inl ⟨h.1, this.mp h.2, rfl⟩
  · exact .inr ⟨fun h' => h ⟨h'.1, this.mpr h'.2⟩, rfl⟩

/-- The slots a report frees: those of CLOSING routes it names silent, in opening order (R28, R31). -/
theorem State.mem_silentSlots (s : State) (hs : List Handle) (i : SlotId) :
    i ∈ s.silentSlots hs ↔ i ∈ s.table.order ∧ ∃ h ∈ hs, h.slot = i ∧ s.stillIn h .closing = true := by
  simp [State.silentSlots]

end Sys2Proof.Machine
end

