-- ==== Sys2Proof/Laws/Pass.lean ====
section
/-! SUPPORT. What a pass does, said once: its six stages as one change of the state. -/
namespace Sys2Proof.Machine

/-- SPILL notices change the notice sets alone: each is raised to the owner and to lane 0, in turn (R66). -/
theorem State.raiseSpill_law (l : List SlotId) (s : State) :
    ∃ ns, s.raiseSpill l = { s with link := { s.link with notices := ns } }
      ∧ NoticesKept s.link.notices ns
      ∧ Raised s .spill
          (fun lane => l.filter fun i => (s.routeAt i).any fun r => decide (r.owner = lane ∨ lane = 0))
          s.link.notices ns := by
  induction l generalizing s with
  | nil => exact ⟨s.link.notices, rfl, NoticesKept.refl _, Raised.nil s _ _⟩
  | cons j rest ih =>
    cases hj : s.routeAt j with
    | none =>
      obtain ⟨ns, e, k, h⟩ := ih s
      exact ⟨ns, by simp only [State.raiseSpill, hj]; exact e, k, by simpa [hj] using h⟩
    | some rj =>
      let t := s.raise rj.owner .spill (some (s.handleAt j))
      by_cases h0 : rj.owner = 0
      · obtain ⟨ns, e, k, h⟩ := ih t
        refine ⟨ns, ?_, (State.raise_kept s _ _ _).trans k, Raised.cons h fun lane => ?_⟩
        · simp only [State.raiseSpill, hj, if_pos h0]; rw [e]; rfl
        · by_cases e0 : lane = 0 <;> simp [hj, h0, e0, t, eq_comm]
      · let v := t.raise 0 .spill (some (t.handleAt j))
        obtain ⟨ns, e, k, h⟩ := ih v
        refine ⟨ns, ?_, ((State.raise_kept s _ _ _).trans (State.raise_kept t _ _ _)).trans k,
          Raised.cons (Raised.cons (s := t) h fun lane => rfl) fun lane => ?_⟩
        · simp only [State.raiseSpill, hj, if_neg h0]; exact e
        · by_cases e0 : lane = 0
          · subst e0; simp [hj, Ne.symm h0, v, t]
          · by_cases e1 : lane = rj.owner
            · simp [hj, e1, v, t]; simp [h0]
            · simp [hj, e0, e1, Ne.symm e1, v, t]

/-- The notice sets b after CROWDED notices about some of the slots P over the sets a: a lane's set is as
it was, or CROWDED stands in it and its latest handle is that of such a slot of the lane. -/
def CrowdedOver (s : State) (P : SlotId → Prop) (a b : Vector NoticeSet 4) : Prop :=
  ∀ lane : LaneId, b[lane] = a[lane] ∨ ∃ (i : SlotId) (r : Route), P i ∧ s.routeAt i = some r
    ∧ r.owner = lane
    ∧ b[lane] =
      { kinds := upd (a[lane]).kinds Notice.crowded.index fun _ => true, latest := some (s.handleAt i) }

theorem CrowdedOver.refl (s : State) (P : SlotId → Prop) (a : Vector NoticeSet 4) : CrowdedOver s P a a :=
  fun _ => .inl rfl

theorem CrowdedOver.mono {s : State} {P Q : SlotId → Prop} {a b : Vector NoticeSet 4}
    (h : CrowdedOver s P a b) (hPQ : ∀ i, P i → Q i) : CrowdedOver s Q a b := fun lane =>
  (h lane).imp id fun ⟨i, r, hp, h⟩ => ⟨i, r, hPQ i hp, h⟩

theorem CrowdedOver.trans {s : State} {P : SlotId → Prop} {a b c : Vector NoticeSet 4}
    (h : CrowdedOver s P a b) (h' : CrowdedOver s P b c) : CrowdedOver s P a c := by
  intro lane
  rcases h' lane with e | ⟨i, r, hp, hr, ho, e⟩
  · rw [e]; exact h lane
  · refine .inr ⟨i, r, hp, hr, ho, ?_⟩
    rcases h lane with e' | ⟨j, q, -, -, -, e'⟩
    · rw [e, e']
    · rw [e, e']
      congr 1
      apply vector_ext
      intro n
      simp only [upd_get]
      split_ifs <;> rfl

/-- CROWDED raised into a lane for one of its slots. -/
theorem State.raise_crowdedOver {s : State} {P : SlotId → Prop} {i : SlotId} {r : Route} (hp : P i)
    (hr : s.routeAt i = some r) :
    CrowdedOver s P s.link.notices (s.raise r.owner .crowded (some (s.handleAt i))).link.notices := by
  intro lane
  simp only [State.raise_notices, upd_get]
  split_ifs with e
  · exact .inr ⟨i, r, hp, hr, e.symm, by subst e; rfl⟩
  · exact .inl rfl

/-- CROWDED for one lane's newly waiting routes changes the notice sets and the count of free values
alone, removes no notice, and stands when the lane owns one of them (R120). -/
theorem State.crowdLane_law (s : State) (waiting : List SlotId) (lane : LaneId) :
    ∃ ns free, s.crowdLane waiting lane = { s with free := free, link := { s.link with notices := ns } }
      ∧ NoticesKept s.link.notices ns ∧ CrowdedOver s (· ∈ waiting) s.link.notices ns
      ∧ ∀ (i : SlotId) (r : Route), i ∈ waiting → s.routeAt i = some r → r.owner = lane →
          (ns[r.owner]).kinds[Notice.crowded.index] = true := by
  unfold State.crowdLane
  dsimp only
  split
  · next hm =>
    refine ⟨s.link.notices, s.free, rfl, NoticesKept.refl _, CrowdedOver.refl _ _ _, fun i r hi hr ho => ?_⟩
    have := List.filter_eq_nil_iff.mp hm i hi
    simp [hr, ho] at this
  · next i hm =>
    have hw := List.mem_filter.mp (by rw [hm]; simp : i ∈ List.filter _ waiting)
    refine ⟨_, s.free, rfl, State.raise_kept _ _ _ _, ?_, fun _ _ _ _ ho => ?_⟩
    · cases hr : s.routeAt i with
      | none => simp [hr] at hw
      | some r =>
        have ho : r.owner = lane := by simpa [hr] using hw.2
        exact ho ▸ State.raise_crowdedOver hw.1 hr
    · subst ho; exact State.raise_stands _ _ _ _
  · next i rest _ hm =>
    obtain ⟨j, hj⟩ : ∃ j, j = (i :: rest)[Config.crowdedPick s.free % (rest.length + 1)]?.getD i := ⟨_, rfl⟩
    have hmem : j ∈ i :: rest := by
      cases e : (i :: rest)[Config.crowdedPick s.free % (rest.length + 1)]? with
      | none => rw [hj, e]; simp
      | some x => rw [hj, e]; exact List.mem_of_getElem? e
    have hw := List.mem_filter.mp (by rw [hm]; exact hmem : j ∈ List.filter _ waiting)
    rw [← hj]
    refine ⟨_, s.free + 1, rfl, State.raise_kept _ _ _ _, ?_, fun _ _ _ _ ho => ?_⟩
    · cases hr : s.routeAt j with
      | none => simp [hr] at hw
      | some r =>
        have ho : r.owner = lane := by simpa [hr] using hw.2
        exact ho ▸ State.raise_crowdedOver hw.1 hr
    · subst ho; exact State.raise_stands _ _ _ _

/-- CROWDED for marked holders (R120). -/
theorem State.raiseFor_crowdedOver (l : List SlotId) (s : State) :
    CrowdedOver s (· ∈ l) s.link.notices (s.raiseFor .crowded l).link.notices := by
  induction l generalizing s with
  | nil => exact CrowdedOver.refl _ _ _
  | cons i rest ih =>
    cases hr : s.routeAt i with
    | none =>
      rw [State.raiseFor_cons_none s _ i rest hr]
      exact (ih s).mono fun j h => List.mem_cons_of_mem _ h
    | some r =>
      rw [State.raiseFor_cons_some s _ i rest r hr]
      have h1 : CrowdedOver s (· ∈ i :: rest) s.link.notices _ := State.raise_crowdedOver (by simp) hr
      exact h1.trans ((ih (s.raise r.owner .crowded (some (s.handleAt i)))).mono
        fun j h => List.mem_cons_of_mem _ h)

/-- CROWDED at one speaker (R120). -/
theorem State.crowdSpeaker_law (s : State) (a : Arbitrated) :
    ∃ ns free, s.crowdSpeaker a = { s with free := free, link := { s.link with notices := ns } }
      ∧ NoticesKept s.link.notices ns
      ∧ CrowdedOver s (fun i => i ∈ a.marked ∨ i ∈ a.waiting) s.link.notices ns
      ∧ ∀ (i : SlotId) (r : Route), i ∈ a.marked ∨ i ∈ a.waiting → s.routeAt i = some r →
          (ns[r.owner]).kinds[Notice.crowded.index] = true := by
  obtain ⟨n0, e0, k0⟩ := State.raiseFor_frame .crowded a.marked s
  have h0 := State.raiseFor_stands .crowded a.marked s
  have c0 := (State.raiseFor_crowdedOver a.marked s).mono (Q := fun i => i ∈ a.marked ∨ i ∈ a.waiting)
    fun _ => .inl
  rw [e0] at h0 c0
  obtain ⟨n1, f1, e1, k1, c1, h1⟩ := State.crowdLane_law { s with link := { s.link with notices := n0 } } a.waiting 0
  obtain ⟨n2, f2, e2, k2, c2, h2⟩ := State.crowdLane_law { s with free := f1, link := { s.link with notices := n1 } } a.waiting 1
  obtain ⟨n3, f3, e3, k3, c3, h3⟩ := State.crowdLane_law { s with free := f2, link := { s.link with notices := n2 } } a.waiting 2
  obtain ⟨n4, f4, e4, k4, c4, h4⟩ := State.crowdLane_law { s with free := f3, link := { s.link with notices := n3 } } a.waiting 3
  refine ⟨n4, f4, ?_, (((k0.trans k1).trans k2).trans k3).trans k4, ?_, fun i r hi hr => ?_⟩
  · simp only [State.crowdSpeaker, List.foldl, e0]
    rw [e1]; dsimp only; rw [e2]; dsimp only; rw [e3]; dsimp only; rw [e4]
  · exact (((c0.trans (c1.mono fun _ => .inr)).trans (c2.mono fun _ => .inr)).trans
      (c3.mono fun _ => .inr)).trans (c4.mono fun _ => .inr)
  · rcases hi with hi | hi
    · exact k4 _ _ (k3 _ _ (k2 _ _ (k1 _ _ (h0 i r hi hr))))
    · have hl : ∀ o : LaneId, o = 0 ∨ o = 1 ∨ o = 2 ∨ o = 3 := by decide
      rcases hl r.owner with e | e | e | e
      · exact k4 _ _ (k3 _ _ (k2 _ _ (h1 i r hi hr e)))
      · exact k4 _ _ (k3 _ _ (h2 i r hi hr e))
      · exact k4 _ _ (h3 i r hi hr e)
      · exact h4 i r hi hr e

/-- CROWDED over the speakers (R120). -/
theorem State.crowdAll_law (l : List Arbitrated) (s : State) :
    ∃ ns free, s.crowdAll l = { s with free := free, link := { s.link with notices := ns } }
      ∧ NoticesKept s.link.notices ns
      ∧ CrowdedOver s (fun i => ∃ a ∈ l, i ∈ a.marked ∨ i ∈ a.waiting) s.link.notices ns
      ∧ ∀ a ∈ l, ∀ (i : SlotId) (r : Route), i ∈ a.marked ∨ i ∈ a.waiting → s.routeAt i = some r →
          (ns[r.owner]).kinds[Notice.crowded.index] = true := by
  induction l generalizing s with
  | nil => exact ⟨s.link.notices, s.free, rfl, NoticesKept.refl _, CrowdedOver.refl _ _ _, fun a h => by simp at h⟩
  | cons b rest ih =>
    obtain ⟨n0, f0, e0, k0, c0, h0⟩ := s.crowdSpeaker_law b
    obtain ⟨ns, free, e, k, c, h⟩ := ih { s with free := f0, link := { s.link with notices := n0 } }
    refine ⟨ns, free, by rw [State.crowdAll, e0, e], k0.trans k,
      (c0.mono fun i hi => ⟨b, by simp, hi⟩).trans
        (c.mono fun i ⟨a, ha, hi⟩ => ⟨a, List.mem_cons_of_mem _ ha, hi⟩), fun a ha i r hi hr => ?_⟩
    rcases List.mem_cons.mp ha with rfl | ha
    · exact k _ _ (h0 i r hi hr)
    · exact h a ha i r hi hr

/-- The state whose spill flags the pass has decided (R65). -/
def State.spilled (s : State) : State := { s with prec := { s.prec with spill := Vector.ofFn s.spillAfter } }

@[simp] theorem State.spilled_grid (s : State) : s.spilled.grid = s.grid := by simp only [State.spilled]

/-- One speaker's arbitration in a pass from this state. -/
def State.passArbitrated (s : State) (sp : SpeakerId) : Arbitrated :=
  if (s.cabin.speakers[sp]).present then
    (s.spilled.targetColumn sp s.grid[sp]).arbitrate s.table.ranked
  else { column := s.spilled.targetColumn sp s.grid[sp], marked := [], waiting := [] }

/-- The grid that a pass from this state leaves. -/
def State.passGrid (s : State) : Vector Column 24 :=
  Vector.ofFn fun sp => s.rampColumn (s.passArbitrated sp).column

theorem State.targetColumn_link (s : State) (l : Link) :
    ({ s with link := l } : State).targetColumn = s.targetColumn := rfl

/-- A slot's route is read from the slots alone. -/
theorem State.routeAt_congr {s t : State} (h : s.table.slots = t.table.slots) : s.routeAt = t.routeAt := by
  funext i; simp only [State.routeAt, h]

/-- A ramp step reads routes and profiles alone. -/
theorem State.rampColumn_congr {s t : State} (h : s.table.slots = t.table.slots) (h' : s.ramps = t.ramps) :
    s.rampColumn = t.rampColumn := by
  funext col; simp only [State.rampColumn, State.routeAt, h, h']

/-- A pass report reads the slots and the grid alone. -/
theorem State.passReport_congr {s t : State} (h : s.table.slots = t.table.slots) (h' : s.grid = t.grid) :
    s.passReport = t.passReport := by
  have hh : s.handleAt = t.handleAt := by funext i; simp only [State.handleAt, h]
  simp only [State.passReport, State.routeIn, State.isSettled, State.isSilent, hh, State.routeAt, h, h']

/-- The ramp stage of a state whose columns are given one by one. -/
theorem State.rampStage_eq {s t : State} {f : SpeakerId → Column} (hg : s.grid = Vector.ofFn f)
    (h : s.table.slots = t.table.slots) (h' : s.ramps = t.ramps) :
    s.rampStage = { s with grid := Vector.ofFn fun sp => t.rampColumn (f sp) } := by
  have e : (fun sp : SpeakerId => s.rampColumn s.grid[sp]) = fun sp => t.rampColumn (f sp) := by
    funext sp; rw [hg, ofFn_get, State.rampColumn_congr h h']
  simp only [State.rampStage, e]

theorem State.targetStage_link (s : State) (l : Link) :
    ({ s with link := l } : State).targetStage =
      { s with grid := Vector.ofFn fun sp => s.targetColumn sp s.grid[sp], link := l } := rfl

/-- Arbitration, ramp, report and glide start of a state whose targets stand. -/
theorem State.laterStages_law (w : State) :
    ∃ ns free,
      w.arbitrationStage.rampStage =
        { w with
          free := free
          grid := Vector.ofFn fun sp => w.rampColumn (w.arbitrated sp).column
          link := { w.link with notices := ns } }
      ∧ NoticesKept w.link.notices ns
      ∧ CrowdedOver w (fun i => ∃ sp, i ∈ (w.arbitrated sp).marked ∨ i ∈ (w.arbitrated sp).waiting)
          w.link.notices ns
      ∧ ∀ (sp : SpeakerId) (i : SlotId) (r : Route),
          i ∈ (w.arbitrated sp).marked ∨ i ∈ (w.arbitrated sp).waiting →
          w.routeAt i = some r → (ns[r.owner]).kinds[Notice.crowded.index] = true := by
  obtain ⟨f, hf⟩ : ∃ f : SpeakerId → Column, f = fun sp => (w.arbitrated sp).column := ⟨_, rfl⟩
  obtain ⟨l, hl⟩ : ∃ l, l = (List.finRange 24).map w.arbitrated := ⟨_, rfl⟩
  have hmem : ∀ sp, w.arbitrated sp ∈ l := fun sp => hl ▸ List.mem_map.mpr ⟨sp, by simp, rfl⟩
  have hinv : ∀ x ∈ l, ∃ sp, x = w.arbitrated sp := by
    intro x hx
    rw [hl] at hx
    obtain ⟨sp, -, e⟩ := List.mem_map.mp hx
    exact ⟨sp, e.symm⟩
  have ha : w.arbitrationStage = ({ w with grid := Vector.ofFn f } : State).crowdAll l := by
    rw [hf, hl]; rfl
  have hc : ∀ sp, (w.arbitrated sp).column = f sp := fun sp => by rw [hf]
  simp only [hc, ha]
  generalize w.arbitrated = a at hmem hinv ⊢
  obtain ⟨g, hg⟩ : ∃ g, g = Vector.ofFn f := ⟨_, rfl⟩
  rw [← hg]
  obtain ⟨n1, f1, e1, k1, c1, h1⟩ := State.crowdAll_law l { w with grid := g }
  refine ⟨n1, f1, ?_, k1, c1.mono fun i ⟨x, hx, hi⟩ => ?_, fun sp i r hi hr => h1 (a sp) (hmem sp) i r hi hr⟩
  rotate_left
  · obtain ⟨sp, rfl⟩ := hinv x hx
    exact ⟨sp, hi⟩
  rw [e1]
  exact State.rampStage_eq (t := w) (f := f) hg rfl rfl

/-- The six stages of a pass as one change (R89). -/
theorem State.stages_law (s : State) :
    ∃ spilled ns free,
      s.stages =
        { s with
          free := free, prec := s.spilled.prec, grid := s.passGrid
          table := { s.table with report := some { s with grid := s.passGrid }.passReport }
          mixer := { s.mixer with
            lanes := Vector.ofFn fun sp => Vector.ofFn fun k =>
              ((s.mixer.lanes[sp])[k]).handed s.mixer.clock ((s.passGrid[sp]).handedGain k)
                (s.passGrid[sp]).lanes[k] }
          link := { s.link with notices := ns } }
      ∧ NoticesKept s.link.notices ns
      ∧ Raised s .spill
          (fun lane => (s.table.order.filter fun i => s.spillAfter i && !s.prec.spill[i]).filter fun i =>
            (s.routeAt i).any fun r => decide (r.owner = lane ∨ lane = 0))
          s.link.notices spilled
      ∧ CrowdedOver s
          (fun i => ∃ sp, i ∈ (s.passArbitrated sp).marked ∨ i ∈ (s.passArbitrated sp).waiting)
          spilled ns
      ∧ ∀ (sp : SpeakerId) (i : SlotId) (r : Route),
          i ∈ (s.passArbitrated sp).marked ∨ i ∈ (s.passArbitrated sp).waiting →
          s.routeAt i = some r → (ns[r.owner]).kinds[Notice.crowded.index] = true := by
  obtain ⟨p, hp⟩ : ∃ p, p = s.spilled.prec := ⟨_, rfl⟩
  have hsp : s.spilled = { s with prec := p } := by rw [hp]; rfl
  obtain ⟨n0, e0, k0, h0⟩ := State.raiseSpill_law
    (s.table.order.filter fun i => s.spillAfter i && !s.prec.spill[i]) { s with prec := p }
  have hs : s.spillStage = { s.spilled with link := { s.link with notices := n0 } } := by
    rw [hsp]; rw [← e0, ← hsp]; rfl
  obtain ⟨w, hw⟩ : ∃ w, w = s.spillStage.targetStage := ⟨_, rfl⟩
  have hw' := hw
  rw [hs, State.targetStage_link] at hw'
  obtain ⟨tg, htg⟩ : ∃ tg, tg = Vector.ofFn fun sp : SpeakerId => s.spilled.targetColumn sp s.spilled.grid[sp] :=
    ⟨_, rfl⟩
  rw [← htg, hsp] at hw'
  have harb : ∀ sp, w.arbitrated sp = s.passArbitrated sp := by
    intro sp
    have hcab : w.cabin = s.cabin := by rw [hw']
    have htab : w.table = s.table := by rw [hw']
    have hcol : w.grid[sp] = s.spilled.targetColumn sp s.grid[sp] := by
      have hg : w.grid = tg := by rw [hw']
      rw [hg, htg, ofFn_get, State.spilled_grid]
    simp only [State.arbitrated, State.passArbitrated, hcab, htab, hcol]
  have hroute : w.routeAt = s.routeAt := State.routeAt_congr (by rw [hw'])
  obtain ⟨n1, f1, e1, k1, c1, h1⟩ := w.laterStages_law
  have hgrid : (Vector.ofFn fun sp => w.rampColumn (w.arbitrated sp).column) = s.passGrid := by
    simp only [harb, State.passGrid]
    rw [State.rampColumn_congr (t := s) (by rw [hw']) (by rw [hw'])]
  rw [hgrid] at e1
  have hn : w.link.notices = n0 := by rw [hw']
  rw [hn] at k1 c1
  refine ⟨n0, n1, f1, ?_, k0.trans k1, h0, ?_, ?_⟩
  · generalize hg : s.passGrid = g at e1 ⊢
    rw [State.stages, ← hw, e1]
    have hr : State.passReport { w with free := f1, grid := g, link := { w.link with notices := n1 } }
        = State.passReport { s with grid := g } := State.passReport_congr (by rw [hw']) rfl
    rw [State.reportStage, hr, State.glideStage]
    rw [← hp]
    subst hw'
    rfl
  · have hh : ∀ i, w.handleAt i = s.handleAt i := fun i => by rw [hw']; rfl
    intro lane
    have := c1 lane
    simpa only [harb, hroute, hh] using this
  · intro sp i r hi hri
    exact h1 sp i r (by rw [harb]; exact hi) (by rw [hroute]; exact hri)

end Sys2Proof.Machine
end

