-- ==== Sys2Proof/Tests/Slice0.lean ====
section
/-! SUPPORT. The model's own tests: ill-formed commands refused, windows written out from section 10.9,
one small step per command with its result from the spec, and a witness for the hypotheses of every
statement. -/
namespace Sys2Proof.Machine.Tests

/- The tests are evaluated one after another: many at once need more threads than the memory limit allows. -/
set_option Elab.async false

/-! ### Helpers -/

/-- The state a command leaves. -/
def after (c : Instr) (s : State) : State :=
  match exec c s with
  | .next t => t
  | _ => s

/-- The reset state put in a mode. -/
def inMode (m : Mode) : State :=
  { State.reset with ctl := { State.reset.ctl with mode := m, wakeUp := none } }

/-- The part after its first wake-up. -/
def inSetup : State := after .endOfWakeUp State.reset

/-- A window of the lane with these payload bytes. -/
def win (lane : LaneId) (payload : List Byte) : Window := Window.ofPayload lane payload

/-- A sound window with these payload bytes and a wrong CRC-16. -/
def badWin (lane : LaneId) (payload : List Byte) : Window :=
  ⟨lane, BitVec.ofNat 16 payload.length, payload ++ [0#8, 0#8]⟩

/-- The state in which a packet of window w is checked, CS_N having been high. -/
def opened (s : State) (w : Window) : State :=
  s.endWindow s.statusByte s.link.queue.head? (4 + w.body.length)

def fieldsOf (k : Kind) (w : Window) : List Field := (readFields k w.payload).getD []

def arrivesB (s : State) (w : Window) : Bool :=
  s.takesPackets && decide (s.link.window = .idle) && decide ((opened s w).link.queue.length < 8)
    && !w.payloadFault

def admitsB (s : State) (k : Kind) (w : Window) : Bool :=
  arrivesB s w && permitted k w.lane && (readFields k w.payload).isSome

theorem opens_of {s : State} {w : Window} (h : s.takesPackets = true) (h' : s.link.window = .idle) :
    Opens s (4 + w.body.length) (opened s w) :=
  ⟨_, by simp [State.windowFixed, h, h', State.windowStart]; rfl, rfl⟩

theorem arrives_of {s : State} {w : Window} (h : arrivesB s w = true) : Arrives s w (opened s w) := by
  simp only [arrivesB, Bool.and_eq_true, decide_eq_true_eq, Bool.not_eq_true'] at h
  obtain ⟨⟨⟨h1, h2⟩, h3⟩, h4⟩ := h
  exact ⟨opens_of h1 h2, h3, h4⟩

theorem admits_of {s : State} {k : Kind} {w : Window} (h : admitsB s k w = true) :
    Admits s k w (fieldsOf k w) (opened s w) := by
  simp only [admitsB, Bool.and_eq_true] at h
  obtain ⟨⟨h1, h2⟩, h3⟩ := h
  refine ⟨arrives_of h1, h2, ?_⟩
  obtain ⟨fs, h⟩ := Option.isSome_iff_exists.mp h3
  simp [fieldsOf, h]

theorem of_some {α : Type} {o : Option α} {a : α} {P : α → Prop} (h : o = some a) (p : P a) :
    ∀ n, o = some n → P n := by
  rintro n hn; rw [h] at hn; cases hn; exact p

/-- A LIVE MEDIA route of lane 0 in all zones. -/
def liveRoute : Route :=
  { owner := 0, cls := .media, source := 0, width := .mono, zones := 15#4, level := -40
    placement := none, followsSpeed := false, ramp := 4, holdTime := none, state := .live
    cause := none, holdLeft := none }

/-- The mode's state with this route in slot 0, generation 1. -/
def withOne (m : Mode) (r : Route) : State :=
  { inMode m with table := { (inMode m).table with
      slots := upd (inMode m).table.slots 0 fun _ => ⟨1#8, some r⟩, order := [0] } }

/-- Speaker sp present in Z0, LEFT, FRONT, with this protection mode, deglitch 1. -/
def withSpeaker (s : State) (sp : SpeakerId) (m : ProtMode) : State :=
  { s with cabin := { s.cabin with speakers := upd s.cabin.speakers sp fun e =>
      { e with present := true, side := .left, row := .front, protMode := m, deglitch := 1 } } }

/-- The state with frames arriving. -/
def running (s : State) : State := { s with mixer := { s.mixer with clock := .running } }

/-- The payload of the latest answer. -/
def answered (s : State) : Option (List Byte) := s.link.queue.getLast?.map (·.payload)

/-! ### Ill-formed commands -/

theorem test_wf_header_fault_sound : (Instr.headerFault [0x00#8, 0x00#8, 0x00#8, 0x2B#8]).wf = false := by decide +kernel
theorem test_wf_unknown_kind_known : (Instr.unknownKind 0x2E#6 ⟨0, 0#16, []⟩).wf = false := by decide +kernel
theorem test_wf_pulse_short : (Instr.faultClearPulse 1999).wf = false := by decide +kernel
theorem test_wf_pulse_long : (Instr.faultClearPulse 100000).wf = false := by decide +kernel
theorem test_wf_run_names_setup : (Instr.setModeRun (win 0 [0x13#8, 1#8])).wf = false := by decide +kernel
theorem test_wf_setup_names_run : (Instr.setModeSetup (win 0 [0x13#8, 0#8])).wf = false := by decide +kernel
theorem test_wf_hush_on_names_off : (Instr.hushOn (win 0 [0x13#8, 3#8])).wf = false := by decide +kernel
theorem test_wf_hush_off_names_none : (Instr.hushOff (win 0 [])).wf = false := by decide +kernel

/-! ### Windows written out from the header and field tables of section 10.9 -/

/-- R178: the NULL packet of lane 0 is 00 00 00 2B. -/
theorem test_decode_null : decodeWindow [0x00#8, 0x00#8, 0x00#8, 0x2B#8] = .null ⟨0, 0#16, []⟩ := by decide +kernel
theorem test_decode_get_status :
    decodeWindow [0x01#8, 0x00#8, 0x00#8, 0x40#8] = .getStatus ⟨0, 0#16, []⟩ := by decide +kernel
theorem test_decode_list :
    decodeWindow [0x94#8, 0x02#8, 0x00#8, 0x03#8, 0x0C#8, 0x00#8, 0x58#8, 0x62#8] =
      .list (win 2 [0x0C#8, 0#8]) := by decide +kernel
theorem test_decode_speed :
    decodeWindow [0x58#8, 0x03#8, 0x00#8, 0x61#8, 0x10#8, 0xE0#8, 0x01#8, 0x8F#8, 0x6C#8] =
      .speed (win 1 [0x10#8, 0xE0#8, 1#8]) := by decide +kernel
theorem test_decode_hush_on :
    decodeWindow [0x08#8, 0x02#8, 0x00#8, 0x50#8, 0x13#8, 0x02#8, 0x6B#8, 0x6D#8] =
      .hushOn (win 0 [0x13#8, 2#8]) := by decide +kernel
theorem test_decode_clear_protect :
    decodeWindow [0x09#8, 0x00#8, 0x00#8, 0x11#8] = .clearProtect ⟨0, 0#16, []⟩ := by decide +kernel
theorem test_decode_set_zone :
    decodeWindow [0x21#8, 0x04#8, 0x00#8, 0x57#8, 0x22#8, 0x00#8, 0x24#8, 0x12#8, 0xA6#8, 0xB7#8] =
      .setZone (win 0 [0x22#8, 0#8, 0x24#8, 0x12#8]) := by decide +kernel
theorem test_decode_load_ramp :
    decodeWindow [0x2B#8, 0x08#8, 0x00#8, 0x2C#8, 0x09#8, 0x00#8, 0x33#8, 0x01#8, 0x00#8, 0x34#8,
      0x01#8, 0x00#8, 0x09#8, 0x5E#8] =
      .loadRamp (win 0 [9#8, 0#8, 0x33#8, 1#8, 0#8, 0x34#8, 1#8, 0#8]) := by decide +kernel
theorem test_decode_unknown_kind :
    decodeWindow [0xFF#8, 0x00#8, 0x00#8, 0x00#8] = .unknownKind 0x3F#6 ⟨3, 0#16, []⟩ := by decide +kernel
theorem test_decode_header_fault :
    decodeWindow [0x00#8, 0x00#8, 0x00#8, 0x2A#8] = .headerFault [0x00#8, 0x00#8, 0x00#8, 0x2A#8] := by decide +kernel

/-! ### One step of each command, its result from the spec -/

/-- R167: power-on in any state gives STANDBY with a wake-up begun when WAKE is high. -/
theorem test_power_on :
    (after (.powerOn resetLines) (withOne .run liveRoute)).ctl.mode = .standby
    ∧ (after (.powerOn resetLines) (withOne .run liveRoute)).table.slots[0] = ⟨0#8, none⟩ := by
  decide +kernel

/-- R167: RST_N asserted releases ATTN_N; 00_scope.md: the part is held in reset. -/
theorem test_rst_n_assert :
    (after .rstNAssert { inSetup with link := { inSetup.link with overrun := true } }).attnLow = false := by
  decide +kernel

/-- R167: a WAKE low at the release counts as having reached 100 µs, and no wake-up begins. -/
theorem test_rst_n_release_wake_low :
    (after (.rstNRelease { resetLines with wakeHigh := false }) inSetup).ctl.wakeUp = none
    ∧ (after (.rstNRelease { resetLines with wakeHigh := false }) inSetup).ctl.wake = .longLow := by
  decide +kernel

theorem test_wake_fall : (after .wakeFall inSetup).ctl.wake = .low := by decide +kernel

/-- R163, R166: 2 µs is a pulse and clears the summary flag, 1999 ns is ignored. -/
theorem test_fault_clear_pulse :
    let s := { inSetup with prot := { inSetup.prot with summary := true } }
    (after (.faultClearPulse 2000) s).prot.summary = false
    ∧ (after (.faultClearPulse 1999) s).prot.summary = true := by decide +kernel

/-- R45: entry to STANDBY frees the routes and keeps the generations. -/
theorem test_entry_to_standby :
    let s := after (.entryToStandby true (Vector.replicate 3 true)) (withOne .run liveRoute)
    s.table.slots[0] = ⟨1#8, none⟩ ∧ s.ctl.crank = true ∧ s.prot.ports[2] = ⟨.warned, none⟩ := by
  decide +kernel

theorem test_wake_up : (after .wakeUp (inMode .standby)).ctl.wakeUp = some 2 := by decide +kernel
theorem test_wake_up_stopped : (after .wakeUpStopped State.reset).ctl.wakeUp = none := by decide +kernel

/-- R141, R165: SETUP, MODE to lane 0, the tone walk timers at 16 ms. -/
theorem test_end_of_wake_up :
    inSetup.ctl.mode = .setup ∧ inSetup.eq.speakers[23].walk = some 16
    ∧ inSetup.link.notices[0].kinds[5] = true ∧ inSetup.link.notices[1].kinds[5] = false := by
  decide +kernel

/-- R185: a response of 2 payload bytes needs a window of 9 bytes; in one of 8 it stays. -/
theorem test_null_delivers :
    let s := { inSetup with link := { inSetup.link with queue := [⟨1, 0x03#6, [0#8, 0#8]⟩] } }
    (after (.null ⟨0, 0#16, List.replicate 5 0#8⟩) s).link.queue = []
    ∧ (after (.null ⟨0, 0#16, List.replicate 4 0#8⟩) s).link.queue.length = 1 := by decide +kernel

/-- R178, R185: the response's header has lane, kind and length, and CRC-8 over them. -/
theorem test_sdo_bytes :
    sdoBytes 0x80#8 (some ⟨0, 0x09#6, [0#8, 0#8]⟩) 9 =
      [0x80#8, 0x09#8, 0x02#8, 0x00#8, 0x3B#8, 0x00#8, 0x00#8, 0x1D#8, 0x0F#8] := by decide +kernel

/-- R179: the first faulty header is captured, a later one counted. -/
theorem test_header_fault :
    let s := after (.headerFault [1#8, 2#8, 3#8]) inSetup
    s.link.capture = some [1#8, 2#8, 3#8] ∧ s.link.linkErr = true
    ∧ (after (.headerFault [4#8]) s).link.capture = some [1#8, 2#8, 3#8]
    ∧ (after (.headerFault [4#8]) s).link.laterErrors = 1 := by decide +kernel

theorem test_unknown_kind :
    answered (after (.unknownKind 0x3F#6 (win 3 [])) inSetup) = some [0x22#8, 0#8] := by decide +kernel

/-- Section 10.9: SETUP, no hush cause, OVERRUN clear, capture EMPTY, CLOCK_LOST, STALE. -/
theorem test_get_status :
    (answered (after (.getStatus (win 0 [])) inSetup)).map (·.take 13) =
      some [0#8, 0#8, 1#8, 0#8, 0#8, 0xFF#8, 0#8, 0#8, 0#8, 0#8, 0#8, 0#8, 1#8] := by decide +kernel

/-- R190: MODE is bit 5; the asking lane's set is emptied. -/
theorem test_get_notices :
    answered (after (.getNotices (win 0 [])) inSetup) =
      some [0#8, 0#8, 0x20#8, 0#8, 0#8, 0#8, 0#8]
    ∧ (after (.getNotices (win 0 [])) inSetup).link.notices[0] = .empty := by decide +kernel

/-- R187: 509 is clamped to 508, for the sending lane alone. -/
theorem test_set_limit :
    let s := after (.setLimit (win 2 [0x16#8, 0xFD#8, 1#8])) inSetup
    s.link.limits[2] = 508 ∧ s.link.limits[1] = 64 ∧ answered s = some [1#8, 0#8] := by decide +kernel

theorem test_set_mode_run :
    (after (.setModeRun (win 0 [0x13#8, 0#8])) inSetup).ctl.mode = .run
    ∧ answered (after (.setModeRun (win 0 [0x13#8, 4#8])) inSetup) = some [0x20#8, 0#8] := by decide +kernel

/-- R43, R170: LEAVING, the route CLOSING with cause FORCED, FORCED to its owner. -/
theorem test_set_mode_setup :
    let s := after (.setModeSetup (win 0 [0x13#8, 1#8])) (withOne .run liveRoute)
    s.ctl.mode = .leaving ∧ s.routeAt 0 = some { liveRoute with state := .closing, cause := some .forced }
    ∧ s.link.notices[0].kinds[4] = true := by decide +kernel

theorem test_end_of_leaving : (after .endOfLeaving (inMode .leaving)).ctl.mode = .setup := by decide +kernel

/-- R172: HUSH_ON in LEAVING acts, in SETUP it is answered MODE. -/
theorem test_hush_on :
    (after (.hushOn (win 0 [0x13#8, 2#8])) (inMode .leaving)).ctl.host = true
    ∧ answered (after (.hushOn (win 0 [0x13#8, 2#8])) inSetup) = some [0x14#8, 0#8] := by decide +kernel

theorem test_hush_off :
    (after (.hushOff (win 0 [0x13#8, 3#8]))
      { inMode .run with ctl := { (inMode .run).ctl with host := true } }).ctl.host = false := by
  decide +kernel

theorem test_clear_protect_denied :
    answered (after (.clearProtect (win 1 [])) inSetup) = some [0x13#8, 0#8] := by decide +kernel

/-- The OPEN of the route lifecycle example: GUIDE, source 6, MONO, Z0, -20, follows speed, p6, 4000 ms. -/
def guideFields : List Byte :=
  [0x02#8, 2#8, 0x03#8, 6#8, 0x04#8, 0#8, 0x05#8, 1#8, 0x06#8, 0xEC#8, 0xFF#8, 0x08#8, 1#8, 0x09#8, 6#8,
    0x0A#8, 0xA0#8, 0x0F#8]

/-- Route lifecycle example: generation 17 becomes 18, the route stands last in the list. -/
theorem test_open :
    let s := withOne .run liveRoute
    let u := { s with table := { s.table with slots := upd s.table.slots 1 fun _ => ⟨17#8, none⟩ } }
    let t := after (.openRoute (win 1 guideFields)) u
    answered t = some [0#8, 0#8, 1#8, 18#8] ∧ t.table.order = [0, 1]
    ∧ (t.routeAt 1).map (·.holdLeft) = some (some 4000) := by decide +kernel

/-- R26: a non-ALERT route may not take the reserve. -/
theorem test_open_full :
    let s := inMode .run
    let u := { s with table := { s.table with
      slots := Vector.ofFn fun i => if i.val < 30 then ⟨1#8, some liveRoute⟩ else ⟨0#8, none⟩ } }
    answered (after (.openRoute (win 1 guideFields)) u) = some [0x10#8, 0#8] := by decide +kernel

theorem test_adjust :
    let t := after (.adjust (win 0 [0x01#8, 0#8, 1#8, 0x06#8, 1#8, 0#8, 0x0A#8, 0xDC#8, 5#8]))
      (withOne .run liveRoute)
    t.routeAt 0 = some { liveRoute with level := 0, holdTime := some 1500, holdLeft := some 1500 }
    ∧ answered t = some [1#8, 0#8] := by decide +kernel

/-- R39: a CUT on a CLOSING route makes its cause CUT. -/
theorem test_close_cut :
    let r := { liveRoute with state := .closing, cause := some .expired }
    (after (.close (win 0 [0x01#8, 0#8, 1#8, 0x0B#8, 1#8])) (withOne .run r)).routeAt 0 =
      some { r with cause := some .cut } := by decide +kernel

/-- R46, section 10.9: the record item by item; −40 is D8 FF, absent cause is FF. -/
theorem test_query :
    answered (after (.query (win 3 [0x01#8, 0#8, 1#8])) (withOne .run liveRoute)) =
      some [0#8, 0#8, 0#8, 1#8, 0#8, 0#8, 0#8, 0#8, 15#8, 0xD8#8, 0xFF#8, 0#8, 0#8, 0#8, 0#8, 4#8, 0#8,
        0#8, 1#8, 0xFF#8, 0#8, 0#8, 15#8, 0#8, 0#8, 0#8, 0#8] := by decide +kernel

theorem test_list :
    answered (after (.list (win 3 [0x0C#8, 0#8])) (withOne .run liveRoute)) =
      some [0#8, 0#8, 1#8, 0#8, 1#8, 0#8, 0#8, 1#8] := by decide +kernel

/-- Worked figures of chapter 4: SPEED 1500 is stored as 1200; the marker 65535 makes the state STALE. -/
theorem test_speed :
    let s := after (.speed (win 0 [0x10#8, 0xDC#8, 5#8])) inSetup
    s.speed.reported = 1200 ∧ s.speed.staleTimer = some 500 ∧ answered s = some [1#8, 0#8]
    ∧ (after (.speed (win 1 [0x10#8, 0xFF#8, 0xFF#8])) s).speed.freshness = .stale := by decide +kernel

theorem test_set_stale :
    (after (.setStale (win 0 [0x11#8, 0x63#8, 0#8])) inSetup).speed.staleTime = 100 := by decide +kernel

theorem test_set_master :
    (after (.setMaster (win 0 [0x06#8, 0xE8#8, 0xFF#8])) inSetup).cabin.masterLevel = -24 := by decide +kernel

theorem test_set_zone :
    let t := after (.setZone (win 0 [0x22#8, 3#8, 0x24#8, 13#8])) inSetup
    t.cabin.zones[3].bass = 12 ∧ t.cabin.zones[0].bass = 0 ∧ answered t = some [1#8, 0#8] := by decide +kernel

theorem test_set_crank_delay :
    (after (.setCrankDelay (win 0 [0x12#8, 0xD1#8, 7#8])) inSetup).ctl.crankDelay = 2000 := by decide +kernel

theorem test_load_speaker :
    let t := after (.loadSpeaker (win 0 [0x20#8, 23#8, 0x21#8, 1#8, 4#8, 2#8, 2#8, 1#8, 4#8, 97#8, 0#8])) inSetup
    t.cabin.speakers[23] = ⟨true, .shared, .centre, .middle, 0, .latch, 96, 1⟩
    ∧ answered t = some [1#8, 0#8] := by decide +kernel

/-- The points of the worked figures of chapter 4. -/
def worked : Vector CurvePoint 8 :=
  #v[⟨0, 0⟩, ⟨200, 0⟩, ⟨320, 12⟩, ⟨480, 30⟩, ⟨640, 44⟩, ⟨800, 56⟩, ⟨960, 64⟩, ⟨1200, 72⟩]

/-- Worked figures of chapter 4. -/
theorem test_curve_figures :
    [100, 200, 360, 400, 410, 430, 530, 560, 700, 1000, 1200].map (evalCurve worked) =
      [0, 0, 17, 21, 22, 24, 34, 37, 49, 65, 72] := by decide +kernel

theorem test_load_curve :
    (after (.loadCurve (win 0 ([0x31#8, 0#8, 0x32#8]
      ++ worked.toList.flatMap fun p => le16 p.speed ++ [byte p.gain.toNat]))) inSetup).speed.curves[0]
      = worked := by decide +kernel

theorem test_load_duck :
    let t := after (.loadDuck (win 0 ([0x02#8, 3#8, 0x30#8] ++ [0xE1#8, 1#8, 0#8, 0#8, 7#8, 0#8, 0#8, 0#8, 1#8, 0#8])))
      inSetup
    (t.prec.duck[3]).toList = [480, 0, 7, 0, 0] ∧ answered t = some [1#8, 0#8] := by decide +kernel

theorem test_load_ramp :
    let t := after (.loadRamp (win 0 [9#8, 7#8, 0x33#8, 0#8, 0#8, 0x34#8, 3#8, 0#8])) inSetup
    t.ramps[7] = ⟨1, 3⟩ ∧ answered t = some [1#8, 0#8] := by decide +kernel

/-- R138: kind HIGH, index −12 is entry 0; −1 is FF FF FF. -/
theorem test_load_tone :
    let t := after (.loadTone (win 0 ([0x35#8, 1#8, 0x36#8, 0xF4#8, 0x37#8] ++ [0xFF#8, 0xFF#8, 0xFF#8]
      ++ List.replicate 12 0#8))) inSetup
    t.eq.toneHigh[0] = ⟨-1, 0, 0, 0, 0⟩ ∧ t.eq.toneLow[0] = .flat := by decide +kernel

theorem test_load_voicing :
    ((after (.loadVoicing (win 0 ([0x20#8, 5#8, 0x38#8] ++ List.replicate 57 0#8 ++ [0#8, 0#8, 0x20#8])))
      inSetup).eq.speakers[5]).voicing[3] = ⟨0, 0, 0, 0, 2097152⟩ := by decide +kernel

theorem test_set_quota :
    (after (.setQuota (win 0 [0x14#8, 1#8, 0x15#8, 33#8])) inSetup).table.quotas[1] = 32 := by decide +kernel

/-- Chapter 11, "A prompt ducks media": the state before pass 1. -/
def prompted : State :=
  let s := withSpeaker (withOne .run liveRoute) 0 .off
  { s with
    cabin := { s.cabin with masterLevel := -24 }
    table := { s.table with
      slots := upd s.table.slots 1 fun _ =>
        ⟨1#8, some { liveRoute with
          owner := 1, cls := .guide, zones := 1#4, level := -20, ramp := 6, state := .opening }⟩
      order := [0, 1] }
    grid := upd s.grid 0 fun col =>
      { cells := upd col.cells 0 fun _ => ⟨-64, -64, false, false⟩, lanes := upd col.lanes 0 fun _ => some 0 } }

/-- Chapter 11, pass 1: the music's target −112 and gain −80, the prompt's −44 and −432 on a lane. -/
theorem test_pass_prompt :
    let t := after .pass prompted
    (t.grid[0]).cells[0] = ⟨-112, -80, false, false⟩ ∧ (t.grid[0]).cells[1] = ⟨-44, -432, false, false⟩
    ∧ (t.grid[0]).lanes[1] = some 1 := by decide +kernel

/-- R29, R31: a settled OPENING route becomes LIVE, a silent CLOSING one is freed. -/
theorem test_pass_report :
    let s := withOne .run { liveRoute with state := .closing, cause := some .cut }
    let t := after .passReport { s with table := { s.table with report := some ⟨[], [⟨0, 1#8⟩]⟩ } }
    t.table.slots[0] = ⟨1#8, none⟩ ∧ t.table.order = [] ∧ t.link.notices[0].kinds[1] = true
    ∧ t.link.notices[0].latest = some ⟨0, 1#8⟩ := by decide +kernel

/-- R40; and R42: an ADJUST taken first restarts the timer with 5 ms, and the expiry does not occur. -/
theorem test_hold_timer_expiry :
    let s := withOne .run { liveRoute with holdTime := some 9, holdLeft := some 1 }
    (after (.holdTimerExpiry 0) s).routeAt 0 =
      some { liveRoute with holdTime := some 9, state := .closing, cause := some .expired }
    ∧ (after (.holdTimerExpiry 0)
        (after (.adjust (win 0 [1#8, 0#8, 1#8, 0x0A#8, 5#8, 0#8])) s)).routeAt 0 =
      some { liveRoute with holdTime := some 5, holdLeft := some 5 } := by
  decide +kernel

/-- Worked figures of chapter 4: one event moves 400 to 401 toward 480 and 500 ms to 499. -/
theorem test_slew_step :
    let t := after .slewStep { inSetup with speed := { inSetup.speed with
      reported := 480, effective := 400, freshness := .fresh, staleTimer := some 500 } }
    t.speed.effective = 401 ∧ t.speed.staleTimer = some 499 := by decide +kernel

/-- R74; and R77, first row: a report taken first restarts the timer, and no expiry follows. -/
theorem test_stale_timer_expiry :
    let t := after .staleTimerExpiry { inSetup with speed := { inSetup.speed with
      reported := 480, effective := 480, freshness := .fresh, staleTimer := some 1 } }
    t.speed.freshness = .stale ∧ t.speed.effective = 480 ∧ t.link.notices[0].kinds[7] = true
    ∧ (after .staleTimerExpiry (after (.speed (win 0 [0x10#8, 7#8, 0#8])) inSetup)).speed.freshness
      = .fresh := by
  decide +kernel

/-- Tone walk example, first expiry: indices 4 and 0 with targets 11 and −4 become 5 and −1. -/
theorem test_tone_walk_expiry :
    let s := withSpeaker inSetup 0 .off
    let t := after .toneWalkExpiry { s with
      cabin := { s.cabin with zones := upd s.cabin.zones 0 fun z => { z with bass := 11, treble := -4 } }
      eq := { s.eq with speakers := upd s.eq.speakers 0 fun e => { e with lowIndex := 4 } } }
    (t.eq.speakers[0]).lowIndex = 5 ∧ (t.eq.speakers[0]).highIndex = -1 := by decide +kernel

/-- Mix examples, first row: x = 1000000 on a lane that stays at lin(−122) = 247431 gives 29496. -/
theorem test_frame_event :
    let s := withSpeaker (withOne .run liveRoute) 0 .off
    let t := after (.frameEvent (Vector.replicate 16 1000000#24)) { s with mixer := { s.mixer with
      clock := .running
      lanes := upd s.mixer.lanes 0 fun ls => upd ls 0 fun _ => ⟨some 0, 247431, 0, -122, 48⟩ } }
    t.mixer.held[0] = 29496 ∧ t.mixer.held[1] = 0 := by decide +kernel

/-- R147, R148, R152: at threshold 0 a saturated sample is an overload, below it none; the counter of a
deglitch of 1 makes the event at once, and the latched speaker's frame is 0. -/
theorem test_frame_overload :
    let s := withSpeaker (withOne .run liveRoute) 0 .latch
    let loud (gain : Int) : State :=
      after (.frameEvent (Vector.replicate 16 0x7FFFFF#24)) { s with mixer := { s.mixer with
        clock := .running
        lanes := upd s.mixer.lanes 0 fun ls => upd ls 0 fun _ => ⟨some 0, gain, 0, 0, 48⟩ } }
    (loud 33554432).prot.speakers[0].state = .latched .direct ∧ (loud 33554432).mixer.held[0] = 0
    ∧ (loud 8388600).prot.speakers[0].state = .normal ∧ (loud 8388600).prot.speakers[0].counter = 0 := by
  decide +kernel

/-- Glide example: frames 1, 24 and 48 from 247431 to lin(−120), and frame 24 the other way. -/
theorem test_glide_figures :
    let l : MixLane := ⟨none, 247431, 247431, -120, 0⟩
    (l.gainAt 1, l.gainAt 24, l.gainAt 48, MixLane.gainAt ⟨none, 262144, 262144, -122, 0⟩ 24)
      = (247738, 254788, 262144, 254787) := by decide +kernel

/-- R136: a section with b0 = 2^21 halves 1001 to 501 and −1001 to −500. -/
theorem test_section_figures :
    (sectionOut ⟨2097152, 0, 0, 0, 0⟩ .rest 1001, sectionOut ⟨2097152, 0, 0, 0, 0⟩ .rest (-1001))
      = (501, -500) := by decide +kernel

theorem test_frame_discard : (after .frameDiscard inSetup).mixer.inFrame = true := by decide +kernel

theorem test_clock_loss :
    let t := after .clockLoss { inSetup with mixer := { inSetup.mixer with
      clock := .running, held := Vector.replicate 24 5 } }
    t.mixer.held[7] = 0 ∧ t.mixer.clock = .lost ∧ t.link.notices[0].kinds[8] = true := by decide +kernel

/-- Chapter 11, "Overload trips escalate", times 0 and 215; R129: in CLOCK_LOST the detector is still. -/
theorem test_overload_event :
    let s := running (withSpeaker (inMode .run) 5 .retryFast)
    let t := after (.overloadEvent 5) s
    t.prot.speakers[5] = ⟨.tripped, 0, some 50, 1, none, false⟩ ∧ t.mixer.gates[5] = false
    ∧ (after (.overloadEvent 5) (s.setProt 5 fun p => { p with repeats := 3, window := some 1985 })).prot.speakers[5]
      = ⟨.latched .escalated, 0, none, 4, none, false⟩
    ∧ (after (.overloadEvent 5) (withSpeaker (inMode .run) 5 .latch)).prot.speakers[5].state = .normal := by
  decide +kernel

/-- Chapter 11: for overload threshold 12 the amplitude is 5931641. -/
theorem test_threshold_amplitude : thresholdAmplitude 12 = 5931641 := by decide +kernel

/-- Chapter 11, time 50. -/
theorem test_retry_timer_expiry :
    (after (.retryTimerExpiry 5) ((inMode .run).setProt 5 fun _ => ⟨.tripped, 0, some 1, 1, none, false⟩)).prot.speakers[5]
      = ⟨.normal, 0, none, 1, some 2000, false⟩ := by decide +kernel

theorem test_escalation_window_expiry :
    (after (.escalationWindowExpiry 5) ((inMode .run).setProt 5 fun _ => ⟨.normal, 0, none, 3, some 1, false⟩)).prot.speakers[5]
      = ⟨.normal, 0, none, 0, none, false⟩ := by decide +kernel

/-- Thermal hold example, times 0 and 3000. -/
theorem test_awarn_sample :
    let t := after (.awarnSample (Vector.replicate 3 true)) inSetup
    t.prot.ports[2] = ⟨.warned, none⟩
    ∧ (after (.awarnSample (Vector.replicate 3 false)) t).prot.ports[2] = ⟨.holding, some 2000⟩ := by
  decide +kernel

theorem test_thermal_hold_expiry :
    (after (.thermalHoldExpiry 1) { inSetup with prot := { inSetup.prot with
      ports := upd inSetup.prot.ports 1 fun _ => ⟨.holding, some 1⟩ } }).prot.ports[1] = ⟨.clear, none⟩ := by
  decide +kernel

/-- Chapter 11, "A drain to SETUP meets a crank": the release starts the timer at the crank delay. -/
theorem test_crank_n_sample :
    let t := after (.crankNSample false) { inSetup with ctl := { inSetup.ctl with crank := true } }
    t.ctl.crank = true ∧ t.ctl.crankTimer = some 300 := by decide +kernel

theorem test_crank_release_timer_expiry :
    let t := after .crankReleaseTimerExpiry { inSetup with ctl := { inSetup.ctl with
      crank := true, crankTimer := some 1 } }
    t.ctl.crank = false ∧ t.ctl.crankTimer = none := by decide +kernel

theorem test_route_table_millisecond_event :
    let t := after .routeTableMillisecondEvent
      (withOne .run { liveRoute with holdTime := some 9, holdLeft := some 1 })
    t.routeAt 0 = some { liveRoute with holdTime := some 9, state := .closing, cause := some .expired }
    ∧ t.link.notices[0].kinds[0] = true := by decide +kernel

/-- R127: the held samples are transmitted from the next FSYNC edge. -/
theorem test_frame_begin :
    (after .frameBegin { inSetup with mixer := { inSetup.mixer with held := Vector.replicate 24 (-1) } }).outputSlot 3
      = 0xFFFFFF00#32 := by decide +kernel

/-- R177, R188: NOTICE, STALE and CLOCK_LOST stand after the wake-up. -/
theorem test_packet_window_begin :
    (after .packetWindowBegin inSetup).link.window = .active 0x58#8 none := by decide +kernel

/-- Placement examples: b = −3, f = −5 at LEFT FRONT, RIGHT FRONT, CENTRE MIDDLE, RIGHT REAR. -/
theorem test_placement_figures :
    (balanceAtt (-3) .left, fadeAtt (-5) .front, balanceAtt (-3) .right, balanceAtt (-3) .centre,
      fadeAtt (-5) .middle, fadeAtt (-5) .rear) = (some 0, some 0, some 18, some 6, some 12, some 30) := by
  decide +kernel

/-! ### Witnesses: a state and operands that meet the hypotheses of each clause -/

theorem witness_StepRunsTheFrontCommand : State.reset.pending = [] := rfl

theorem witness_PacketBytesSpellTheirCommand :
    (∃ bytes, (Instr.hushOff (win 0 [0x13#8, 3#8])).wf = true
      ∧ encodeWindow (.hushOff (win 0 [0x13#8, 3#8])) = some bytes)
    ∧ ∃ bytes, (Instr.headerFault []).wf = true ∧ encodeWindow (.headerFault []) = some bytes :=
  ⟨⟨_, by decide +kernel, rfl⟩, ⟨_, by decide +kernel, rfl⟩⟩

theorem witness_PayloadsAreSequencesOfFields :
    (readFields .query [0x01#8, 31#8, 255#8] = some [⟨0x01#8, [31#8, 255#8]⟩])
    ∧ (List.replicate 508 0#8).length ≤ 508 := by decide +kernel

theorem witness_WindowStartFixesStatusAndHead :
    (inSetup.link.window = .idle ∧ inSetup.pins.rstAsserted = false ∧ inSetup.ctl.mode ≠ .standby)
    ∧ (State.reset.link.window = .idle ∧ State.reset.ctl.mode = .standby)
    ∧ (encodeWindow (.null (win 0 []))).isSome = true := by decide +kernel

theorem witness_NullDeliversTheHeadResponse :
    let r : Response := ⟨3, 0x03#6, [0#8, 0#8]⟩
    let s := { inSetup with link := { inSetup.link with queue := [r] } }
    s.pins.rstAsserted = false ∧ s.ctl.mode ≠ .standby
    ∧ (s.link.window = .idle ∧ s.statusByte = s.statusByte ∧ some r = s.link.queue.head?)
    ∧ r.payload.length + 7 ≤ 4 + (⟨0, 0#16, List.replicate 5 0#8⟩ : Window).body.length
    ∧ 4 + (⟨0, 0#16, List.replicate 4 0#8⟩ : Window).body.length < r.payload.length + 7
    ∧ inSetup.link.queue.head? = none := by decide +kernel

theorem opens_bytes {s : State} (n : Nat) (h : s.takesPackets = true) (h' : s.link.window = .idle) :
    Opens s n (s.endWindow s.statusByte s.link.queue.head? n) :=
  ⟨_, by simp [State.windowFixed, h, h', State.windowStart]; rfl, rfl⟩

/-- A full response queue, so no room for an answer. -/
def fullQueue : State :=
  { inSetup with link := { inSetup.link with queue := List.replicate 8 ⟨1, 0x03#6, [0#8, 0#8]⟩ } }

theorem witness_LinkChecksStandInOrder :
    (∃ u, readHeader [1#8, 2#8, 3#8] = none ∧ Opens inSetup 3 u ∧ u.link.capture = none)
    ∧ (∃ s u held, readHeader [1#8] = none ∧ Opens s 1 u ∧ u.link.capture = some held)
    ∧ (∃ u, Kind.list ≠ .null ∧ Opens fullQueue (4 + (win 0 []).body.length) u ∧ 8 ≤ u.link.queue.length)
    ∧ (∃ u, Kind.list ≠ .null ∧ Opens inSetup (4 + (badWin 0 [0x0C#8, 0#8]).body.length) u
        ∧ u.link.queue.length < 8 ∧ (badWin 0 [0x0C#8, 0#8]).payloadFault = true)
    ∧ (∃ u, Kind.setZone ≠ .null ∧ Opens inSetup (4 + (win 1 []).body.length) u
        ∧ u.link.queue.length < 8 ∧ (win 1 []).payloadFault = false ∧ permitted .setZone (win 1 []).lane = false)
    ∧ (∃ u, Kind.query ≠ .null ∧ Opens inSetup (4 + (win 3 []).body.length) u
        ∧ u.link.queue.length < 8 ∧ (win 3 []).payloadFault = false ∧ permitted .query (win 3 []).lane = true
        ∧ readFields .query (win 3 []).payload = none)
    ∧ (∃ u, Kind.ofCode 0x3F#6 = none ∧ Opens inSetup (4 + (win 3 []).body.length) u
        ∧ u.link.queue.length < 8)
    ∧ ∃ u, Kind.ofCode 0x04#6 = none ∧ Opens fullQueue (4 + (win 3 []).body.length) u
        ∧ 8 ≤ u.link.queue.length :=
  ⟨⟨_, by decide +kernel, opens_bytes 3 (by decide +kernel) rfl, by decide +kernel⟩,
   ⟨{ inSetup with link := { inSetup.link with capture := some [9#8] } }, _, [9#8], by decide +kernel,
     opens_bytes 1 (by decide +kernel) (by decide +kernel), by decide +kernel⟩,
   ⟨_, by decide, opens_of (by decide +kernel) (by decide +kernel), by decide +kernel⟩,
   ⟨_, by decide, opens_of (by decide +kernel) (by decide +kernel), by decide +kernel⟩,
   ⟨_, by decide, opens_of (by decide +kernel) (by decide +kernel), by decide +kernel⟩,
   ⟨_, by decide, opens_of (by decide +kernel) (by decide +kernel), by decide +kernel⟩,
   ⟨_, by decide +kernel, opens_of (by decide +kernel) (by decide +kernel), by decide +kernel⟩,
   ⟨_, by decide +kernel, opens_of (by decide +kernel) (by decide +kernel), by decide +kernel⟩⟩

/-- Some request of this kind is admitted in this state and its fields and state satisfy P. -/
def Admitted (s : State) (k : Kind) (P : Window → List Field → State → Prop) : Prop :=
  ∃ w fs u, Admits s k w fs u ∧ P w fs u

theorem admitted {s : State} {k : Kind} {P : Window → List Field → State → Prop} (w : Window)
    (h : admitsB s k w = true) (p : P w (fieldsOf k w) (opened s w)) : Admitted s k P :=
  ⟨w, _, _, admits_of h, p⟩

/-- A request of a head-lane kind arrives from lane 3, for every such kind. -/
theorem witness_HeadLaneOnly :
    Arrives inSetup (win 3 []) (opened inSetup (win 3 [])) ∧ (win 3 []).lane ≠ 0 :=
  ⟨arrives_of (by decide +kernel), by decide +kernel⟩

def bigLimit : State := { inSetup with link := { inSetup.link with limits := Vector.replicate 4 508 } }

theorem witness_StatusAndNoticesAreReported :
    Admitted inSetup .getStatus (fun w _ _ => w.lane = 0)
    ∧ Admitted bigLimit .getStatus (fun w _ u => w.lane ≠ 0 ∧ 45 ≤ u.link.limits[w.lane])
    ∧ Admitted inSetup .getNotices (fun w _ u => 7 ≤ u.link.limits[w.lane]) :=
  ⟨admitted (win 0 []) (by decide +kernel) (by decide +kernel),
   admitted (win 3 []) (by decide +kernel) (by decide +kernel),
   admitted (win 0 []) (by decide +kernel) (by decide +kernel)⟩

theorem witness_LimitsBoundTheAnswers :
    Admitted inSetup .setLimit (fun _ fs _ => natField fs 0x16#8 = none)
    ∧ Admitted inSetup .setLimit (fun _ fs _ => natField fs 0x16#8 = some 7)
    ∧ Admitted inSetup .setLimit (fun _ fs _ => natField fs 0x16#8 = some 508)
    ∧ exec (.powerOn resetLines) inSetup = .next (after (.powerOn resetLines) inSetup)
    ∧ exec (.entryToStandby false (Vector.replicate 3 false)) inSetup =
        .next (after (.entryToStandby false (Vector.replicate 3 false)) inSetup)
    ∧ 2 ≤ 2 :=
  ⟨admitted (win 3 []) (by decide +kernel) (by decide +kernel),
   admitted (win 3 [0x16#8, 7#8, 0#8]) (by decide +kernel) (by decide +kernel),
   admitted (win 3 [0x16#8, 0xFC#8, 1#8]) (by decide +kernel) (by decide +kernel),
   rfl, rfl, le_rfl⟩

theorem witness_SetModeActsByItsAction :
    Admitted inSetup .setMode (fun _ fs u => natField fs 0x13#8 = some 0 ∧ u.ctl.mode = .setup)
    ∧ Admitted (inMode .run) .setMode (fun _ fs u => natField fs 0x13#8 = some 0 ∧ u.ctl.mode = .run)
    ∧ Admitted (inMode .leaving) .setMode (fun _ fs u => natField fs 0x13#8 = some 0 ∧ u.ctl.mode = .leaving)
    ∧ Admitted (inMode .leaving) .setMode (fun _ fs u => natField fs 0x13#8 = some 1
        ∧ (u.ctl.mode = .setup ∨ u.ctl.mode = .leaving))
    ∧ Admitted (inMode .leaving) .setMode (fun _ fs u => natField fs 0x13#8 = some (if true then 2 else 3)
        ∧ (u.ctl.mode = .run ∨ u.ctl.mode = .leaving))
    ∧ Admitted inSetup .setMode (fun _ fs u => natField fs 0x13#8 = some (if false then 2 else 3)
        ∧ u.ctl.mode = .setup)
    ∧ Admitted inSetup .setMode (fun _ fs _ => ∀ a, natField fs 0x13#8 = some a → 3 < a) :=
  ⟨admitted (win 0 [0x13#8, 0#8]) (by decide +kernel) (by decide +kernel),
   admitted (win 0 [0x13#8, 0#8]) (by decide +kernel) (by decide +kernel),
   admitted (win 0 [0x13#8, 0#8]) (by decide +kernel) (by decide +kernel),
   admitted (win 0 [0x13#8, 1#8]) (by decide +kernel) (by decide +kernel),
   admitted (win 0 [0x13#8, 2#8]) (by decide +kernel) (by decide +kernel),
   admitted (win 0 [0x13#8, 3#8]) (by decide +kernel) (by decide +kernel),
   admitted (win 0 [0x13#8, 4#8]) (by decide +kernel)
     (of_some (a := 4) (P := fun a => 3 < a) (by decide +kernel) (by decide))⟩

theorem witness_SetModeSetupForcesEveryRoute :
    Admitted (withOne .run liveRoute) .setMode (fun _ fs u => natField fs 0x13#8 = some 1 ∧ u.ctl.mode = .run
      ∧ (u.routeAt 0).isSome = true ∧ 0 ∈ u.table.order ∧ u.routeAt 0 = some liveRoute
      ∧ liveRoute.state ≠ .closing)
    ∧ Admitted (inMode .run) .setMode (fun _ fs u => natField fs 0x13#8 = some 1 ∧ u.ctl.mode = .run
      ∧ ∀ i : SlotId, u.routeAt i = none) :=
  ⟨admitted (win 0 [0x13#8, 1#8]) (by decide +kernel) (by decide +kernel),
   admitted (win 0 [0x13#8, 1#8]) (by decide +kernel) (by decide +kernel)⟩

/-- A state whose CRANK cause is present with this timer. -/
def cranked (timer : Option Nat) : State :=
  { inSetup with ctl := { inSetup.ctl with crank := true, crankTimer := timer } }

theorem modeInv_of {s : State} (h1 : s.ctl.host = true → s.ctl.mode = .run ∨ s.ctl.mode = .leaving)
    (h2 : s.ctl.crankTimer.isSome = true → s.ctl.crank = true)
    (h3 : (s.ctl.crankTimer.all fun n => decide (1 ≤ n ∧ n ≤ 2000)) = true) (h4 : s.ctl.crankDelay ≤ 2000)
    (h5 : s.ctl.wakeUp.isSome = true → s.ctl.mode = .standby)
    (h6 : ∀ sp : SpeakerId, (s.eq.speakers[sp]).walk.isSome = true ↔ s.ctl.mode ≠ .standby) : ModeInv s := by
  refine ⟨h1, h2, fun n hn => ?_, h4, h5, h6⟩
  rw [hn] at h3; simpa using h3

theorem setup_wakeUp : inSetup.ctl.wakeUp = none := by decide +kernel
theorem setup_delay : inSetup.ctl.crankDelay ≤ 2000 := by decide +kernel
theorem setup_host : inSetup.ctl.host = false := by decide +kernel
theorem setup_walk : ∀ sp : SpeakerId, (inSetup.eq.speakers[sp]).walk.isSome = true ↔ inSetup.ctl.mode ≠ .standby := by
  decide +kernel

theorem modeInv_cranked (timer : Option Nat) (h : (timer.all fun n => decide (1 ≤ n ∧ n ≤ 2000)) = true) :
    ModeInv (cranked timer) :=
  modeInv_of (fun h => absurd h (by simp [cranked, setup_host])) (fun _ => rfl) h setup_delay (fun h => absurd h (by simp [cranked, setup_wakeUp]))
    (fun sp => by show (inSetup.eq.speakers[sp]).walk.isSome = true ↔ inSetup.ctl.mode ≠ .standby; exact setup_walk sp)

theorem witness_CrankCauseAndDelay :
    (inSetup.pins.rstAsserted = false ∧ ModeInv inSetup ∧ inSetup.ctl.crank = false)
    ∧ ((cranked none).pins.rstAsserted = false ∧ ModeInv (cranked none) ∧ (cranked none).ctl.crank = true
      ∧ (cranked none).ctl.crankTimer = none ∧ (cranked none).ctl.crankDelay ≠ 0)
    ∧ (ModeInv (cranked (some 1)) ∧ (cranked (some 1)).ctl.crankTimer = some 1)
    ∧ (ModeInv (cranked (some 2000)) ∧ (cranked (some 2000)).ctl.crankTimer = some 2000 ∧ 1 < 2000)
    ∧ (∃ s : State, s.pins.rstAsserted = false ∧ ModeInv s ∧ s.ctl.crank = true ∧ s.ctl.crankTimer = none
      ∧ s.ctl.crankDelay = 0)
    ∧ Admitted inSetup .setCrankDelay (fun _ fs _ => natField fs 0x12#8 = none)
    ∧ Admitted inSetup .setCrankDelay (fun _ fs _ => natField fs 0x12#8 = some 2001) :=
  ⟨⟨by decide +kernel, modeInv_of (by decide +kernel) (by decide +kernel) (by decide +kernel)
      (by decide +kernel) (by decide +kernel) (by decide +kernel), by decide +kernel⟩,
   ⟨by decide +kernel, modeInv_cranked _ rfl, by decide +kernel⟩,
   ⟨modeInv_cranked _ (by decide), rfl⟩, ⟨modeInv_cranked _ (by decide), rfl, by decide⟩,
   ⟨{ cranked none with ctl := { (cranked none).ctl with crankDelay := 0 } }, by decide +kernel,
     modeInv_of (by decide +kernel) (by decide +kernel) (by decide +kernel)
      (by decide +kernel) (by decide +kernel) (by decide +kernel), by decide +kernel⟩,
   admitted (win 0 []) (by decide +kernel) (by decide +kernel),
   admitted (win 0 [0x12#8, 0xD1#8, 7#8]) (by decide +kernel) (by decide +kernel)⟩

theorem witness_ResetSetsEveryBlock :
    exec (.rstNRelease resetLines) inSetup = .next (after (.rstNRelease resetLines) inSetup) := rfl

theorem pass_held (s : State) (h : s.pins.rstAsserted = true) : exec .pass s = .next (after .pass s) := by
  simp [exec, execPass, after, h]

theorem witness_ResetHoldsThePart :
    let s := after .rstNAssert inSetup
    s.pins.rstAsserted = true ∧ exec .pass s = .next (after .pass s) := by
  have h : (after .rstNAssert inSetup).pins.rstAsserted = true := by decide +kernel
  exact ⟨h, pass_held _ h⟩

theorem witness_WakeLowsActByTheirLength :
    (inSetup.pins.rstAsserted = false ∧ inSetup.ctl.wake ≠ .longLow ∧ 1999 < 2000)
    ∧ (2000 ≤ 2000 ∧ 99999 < 100000 ∧ inSetup.ctl.mode ≠ .standby)
    ∧ (State.reset.pins.rstAsserted = false ∧ State.reset.ctl.mode = .standby
      ∧ State.reset.ctl.wakeUp.isSome = true) := by decide +kernel

theorem witness_WakeUpAndLeavingEndInSetup :
    (State.reset.pins.rstAsserted = false ∧ State.reset.ctl.mode = .standby
      ∧ State.reset.ctl.wakeUp.isSome = true)
    ∧ ((inMode .leaving).pins.rstAsserted = false ∧ (inMode .leaving).ctl.mode = .leaving
      ∧ ∀ i : SlotId, (inMode .leaving).routeAt i = none) := by decide +kernel

theorem witness_StandbyClearsAndKeeps :
    (State.reset.pins.rstAsserted = false ∧ State.reset.ctl.mode = .standby)
    ∧ (inSetup.pins.rstAsserted = false ∧ inSetup.ctl.mode ≠ .standby ∧ inSetup.link.window = .idle)
    ∧ (let s := after .packetWindowBegin inSetup;
      s.pins.rstAsserted = false ∧ s.ctl.mode ≠ .standby ∧ s.link.window ≠ .idle) := by decide +kernel

def entryWin (sp trim thr dgl : Byte) : Window :=
  win 0 [0x20#8, sp, 0x21#8, 1#8, 4#8, 2#8, 2#8, trim, 4#8, thr, dgl]

theorem witness_LoadSpeakerReplacesTheEntry :
    Admitted (inMode .run) .loadSpeaker (fun _ _ u => u.ctl.mode ≠ .setup)
    ∧ Admitted inSetup .loadSpeaker (fun _ fs u => u.ctl.mode = .setup
        ∧ ((natField fs 0x20#8).bind (finOf 24) = none ∨ speakerEntryField fs = none))
    ∧ Admitted inSetup .loadSpeaker (fun _ fs u => u.ctl.mode = .setup
        ∧ natField fs 0x20#8 = some (23 : SpeakerId).val
        ∧ fieldValue fs 0x21#8 = some [1#8, 4#8, 2#8, 2#8, 0x9F#8, 4#8, 97#8, 0#8]
        ∧ boolOfCode (1#8).toNat = some true ∧ Place.ofCode (4#8).toNat = some .shared
        ∧ Side.ofCode (2#8).toNat = some .centre ∧ Row.ofCode (2#8).toNat = some .middle
        ∧ ProtMode.ofCode (4#8).toNat = some .latch) :=
  ⟨admitted (entryWin 0#8 0#8 0#8 1#8) (by decide +kernel) (by decide +kernel),
   admitted (entryWin 24#8 0#8 0#8 1#8) (by decide +kernel) (by decide +kernel),
   admitted (entryWin 23#8 0x9F#8 97#8 0#8) (by decide +kernel) (by decide +kernel)⟩

theorem witness_ZoneAndMasterSettingsAreWritten :
    Admitted inSetup .setZone (fun _ fs _ => (natField fs 0x22#8).bind (finOf 4) = none)
    ∧ Admitted inSetup .setZone (fun _ fs _ => natField fs 0x22#8 = some (3 : Zone).val
        ∧ codeField fs 0x23#8 boolOfCode = some none ∧ codeField fs 0x26#8 curveOfCode = some (some none)
        ∧ intField fs 0x24#8 = some 13)
    ∧ Admitted inSetup .setMaster (fun _ fs _ => fieldValue fs 0x06#8 = none ∧ fieldValue fs 0x23#8 = none
        ∧ fieldValue fs 0x27#8 = none)
    ∧ Admitted inSetup .setMaster (fun _ fs _ => codeField fs 0x23#8 boolOfCode = some (some true)
        ∧ codeField fs 0x27#8 (finOf 4) = some (some 3) ∧ intField fs 0x06#8 = some (-481)) :=
  ⟨admitted (win 0 [0x22#8, 4#8]) (by decide +kernel) (by decide +kernel),
   admitted (win 0 [0x22#8, 3#8, 0x24#8, 13#8, 0x26#8, 0xFF#8]) (by decide +kernel) (by decide +kernel),
   admitted (win 0 []) (by decide +kernel) (by decide +kernel),
   admitted (win 0 [0x06#8, 0x1F#8, 0xFE#8, 0x23#8, 1#8, 0x27#8, 3#8]) (by decide +kernel)
     (by decide +kernel)⟩

theorem witness_LoadDuckReplacesOneRow :
    State.reset.ctl.mode = .standby
    ∧ Admitted inSetup .loadDuck (fun _ fs _ => (natField fs 0x02#8).bind RouteClass.ofCode = none)
    ∧ Admitted inSetup .loadDuck (fun _ fs _ => natField fs 0x02#8 = some RouteClass.alert.code
        ∧ fieldValue fs 0x30#8 =
          some [0xE1#8, 1#8, 0#8, 0#8, 0#8, 0#8, 0#8, 0#8, 1#8, 0#8]) :=
  ⟨rfl, admitted (win 0 [0x02#8, 5#8]) (by decide +kernel) (by decide +kernel),
   admitted (win 0 ([0x02#8, 4#8, 0x30#8] ++ [0xE1#8, 1#8, 0#8, 0#8, 0#8, 0#8, 0#8, 0#8, 1#8, 0#8]))
     (by decide +kernel) (by decide +kernel)⟩

theorem witness_LoadRampReplacesOneProfile :
    State.reset.ctl.mode = .standby
    ∧ Admitted inSetup .loadRamp (fun _ fs _ => natField fs 0x33#8 = none)
    ∧ Admitted inSetup .loadRamp (fun _ fs _ => natField fs 0x09#8 = some 8 ∧ 7 < 8)
    ∧ Admitted inSetup .loadRamp (fun _ fs _ => natField fs 0x09#8 = some (7 : Fin 8).val
        ∧ natField fs 0x33#8 = some 0 ∧ natField fs 0x34#8 = some 481) :=
  ⟨rfl, admitted (win 0 []) (by decide +kernel) (by decide +kernel),
   admitted (win 0 [9#8, 8#8, 0x33#8, 0#8, 0#8, 0x34#8, 0xE1#8, 1#8]) (by decide +kernel) (by decide +kernel),
   admitted (win 0 [9#8, 7#8, 0x33#8, 0#8, 0#8, 0x34#8, 0xE1#8, 1#8]) (by decide +kernel) (by decide +kernel)⟩

theorem witness_SetupLoadsWriteTheirEntry :
    Admitted (inMode .run) .setQuota (fun _ _ u => u.ctl.mode ≠ .setup)
    ∧ Admitted inSetup .setQuota (fun _ fs u => u.ctl.mode = .setup ∧ natField fs 0x14#8 = some (3 : LaneId).val
        ∧ natField fs 0x15#8 = some 33)
    ∧ Admitted inSetup .setQuota (fun _ fs u => u.ctl.mode = .setup
        ∧ (natField fs 0x14#8 = none ∨ natField fs 0x15#8 = none
          ∨ ∃ n, natField fs 0x14#8 = some n ∧ 3 < n))
    ∧ Admitted (inMode .leaving) .loadTone (fun _ _ u => u.ctl.mode ≠ .setup)
    ∧ Admitted inSetup .loadTone (fun _ fs u => u.ctl.mode = .setup
        ∧ natField fs 0x35#8 = some (if true then 1 else 0) ∧ intField fs 0x36#8 = some (-12)
        ∧ fieldValue fs 0x37#8 = some (List.replicate 15 0xFF#8))
    ∧ Admitted inSetup .loadTone (fun _ fs u => u.ctl.mode = .setup
        ∧ (natField fs 0x35#8 = none ∨ intField fs 0x36#8 = none ∨ fieldValue fs 0x37#8 = none
          ∨ (∃ n, natField fs 0x35#8 = some n ∧ 1 < n)
          ∨ ∃ x, intField fs 0x36#8 = some x ∧ (x < -12 ∨ 12 < x)))
    ∧ Admitted (inMode .run) .loadVoicing (fun _ _ u => u.ctl.mode ≠ .setup)
    ∧ Admitted inSetup .loadVoicing (fun _ fs u => u.ctl.mode = .setup
        ∧ natField fs 0x20#8 = some (23 : SpeakerId).val
        ∧ fieldValue fs 0x38#8 = some (List.replicate 60 0x80#8))
    ∧ Admitted inSetup .loadVoicing (fun _ fs u => u.ctl.mode = .setup
        ∧ (natField fs 0x20#8 = none ∨ fieldValue fs 0x38#8 = none
          ∨ ∃ n, natField fs 0x20#8 = some n ∧ 23 < n)) :=
  ⟨admitted (win 0 []) (by decide +kernel) (by decide +kernel),
   admitted (win 0 [0x14#8, 3#8, 0x15#8, 33#8]) (by decide +kernel) (by decide +kernel),
   admitted (win 0 [0x14#8, 4#8, 0x15#8, 33#8]) (by decide +kernel)
     ⟨by decide +kernel, .inr (.inr ⟨4, by decide +kernel, by decide⟩)⟩,
   admitted (win 0 []) (by decide +kernel) (by decide +kernel),
   admitted (win 0 ([0x35#8, 1#8, 0x36#8, 0xF4#8, 0x37#8] ++ List.replicate 15 0xFF#8)) (by decide +kernel)
     (by decide +kernel),
   admitted (win 0 ([0x35#8, 1#8, 0x36#8, 13#8, 0x37#8] ++ List.replicate 15 0xFF#8)) (by decide +kernel)
     ⟨by decide +kernel, .inr (.inr (.inr (.inr ⟨13, by decide +kernel, by decide⟩)))⟩,
   admitted (win 0 []) (by decide +kernel) (by decide +kernel),
   admitted (win 0 ([0x20#8, 23#8, 0x38#8] ++ List.replicate 60 0x80#8)) (by decide +kernel)
     (by decide +kernel),
   admitted (win 0 ([0x20#8, 24#8, 0x38#8] ++ List.replicate 60 0x80#8)) (by decide +kernel)
     ⟨by decide +kernel, .inr (.inr ⟨24, by decide +kernel, by decide⟩)⟩⟩

/-- The part in SETUP, FRESH at these speeds. -/
def fresh (reported effective : Nat) (timer : Option Nat) : State :=
  { inSetup with speed := { inSetup.speed with
      reported := reported, effective := effective, freshness := .fresh, staleTimer := timer } }

theorem speedInv_of {s : State} (h1 : s.speed.reported ≤ 1200 ∧ s.speed.effective ≤ 1200
      ∧ 100 ≤ s.speed.staleTime ∧ s.speed.staleTime ≤ 2000)
    (h2 : s.speed.freshness = .fresh ↔ s.speed.staleTimer.isSome = true)
    (h3 : (s.speed.staleTimer.all fun n => decide (1 ≤ n ∧ n ≤ 2000)) = true)
    (h4 : s.speed.curves = SpeedMonitor.reset.curves) : SpeedInv s := by
  refine ⟨h1.1, h1.2.1, h1.2.2.1, h1.2.2.2, h2, fun n hn => ?_, ?_⟩
  · rw [hn] at h3; simpa using h3
  · rw [h4]; decide +kernel

theorem setup_stale : 100 ≤ inSetup.speed.staleTime ∧ inSetup.speed.staleTime ≤ 2000 := by decide +kernel

theorem speedInv_fresh (a b : Nat) (t : Nat) (h : a ≤ 1200 ∧ b ≤ 1200) (h' : 1 ≤ t ∧ t ≤ 2000) :
    SpeedInv (fresh a b (some t)) :=
  speedInv_of ⟨h.1, h.2, setup_stale⟩ (by simp [fresh]) (by simpa [fresh] using h') rfl

theorem witness_SpeedReportsAndStaleTime :
    Admitted inSetup .speed (fun _ fs _ => natField fs 0x10#8 = none)
    ∧ Admitted inSetup .speed (fun _ fs _ => natField fs 0x10#8 = some 65534 ∧ 65534 ≠ 65535)
    ∧ Admitted (fresh 0 0 (some 1)) .speed (fun _ fs u => natField fs 0x10#8 = some 65535
        ∧ u.speed.freshness = .fresh)
    ∧ Admitted inSetup .speed (fun _ fs u => natField fs 0x10#8 = some 65535 ∧ u.speed.freshness = .stale)
    ∧ Admitted inSetup .setStale (fun _ fs _ => natField fs 0x11#8 = none)
    ∧ Admitted inSetup .setStale (fun _ fs _ => natField fs 0x11#8 = some 99) :=
  ⟨admitted (win 3 []) (by decide +kernel) (by decide +kernel),
   admitted (win 3 [0x10#8, 0xFE#8, 0xFF#8]) (by decide +kernel) (by decide +kernel),
   admitted (win 3 [0x10#8, 0xFF#8, 0xFF#8]) (by decide +kernel) (by decide +kernel),
   admitted (win 0 [0x10#8, 0xFF#8, 0xFF#8]) (by decide +kernel) (by decide +kernel),
   admitted (win 0 []) (by decide +kernel) (by decide +kernel),
   admitted (win 0 [0x11#8, 99#8, 0#8]) (by decide +kernel) (by decide +kernel)⟩

/-- A LOAD_CURVE window for curve c with these eight points. -/
def curveWin (c : Byte) (points : List Byte) : Window := win 0 ([0x31#8, c, 0x32#8] ++ points)

def risingPoints : List Byte :=
  [0#8, 0#8, 0x80#8, 1#8, 0#8, 72#8, 2#8, 0#8, 73#8, 3#8, 0#8, 0#8, 4#8, 0#8, 0#8, 5#8, 0#8, 0#8,
    6#8, 0#8, 0#8, 0xB0#8, 4#8, 0#8]

theorem witness_LoadCurveReplacesOneCurve :
    Admitted inSetup .loadCurve (fun _ fs _ => fieldValue fs 0x31#8 = none)
    ∧ Admitted inSetup .loadCurve (fun _ fs _ => natField fs 0x31#8 = some 4 ∧ 3 < 4)
    ∧ Admitted inSetup .loadCurve (fun _ fs _ => ∃ bs, fieldValue fs 0x32#8 = some bs ∧ bs.length = 24
        ∧ ∃ i j : Fin 8, i < j
          ∧ ((bs.getD (3 * j.val + 1) 0#8) ++ (bs.getD (3 * j.val) 0#8)).toNat
            ≤ ((bs.getD (3 * i.val + 1) 0#8) ++ (bs.getD (3 * i.val) 0#8)).toNat)
    ∧ Admitted inSetup .loadCurve (fun _ fs _ => ∃ bs, fieldValue fs 0x32#8 = some bs ∧ bs.length = 24
        ∧ natField fs 0x31#8 = some (3 : Fin 4).val
        ∧ (∀ i : Fin 8, ((bs.getD (3 * i.val + 1) 0#8) ++ (bs.getD (3 * i.val) 0#8)).toNat ≤ 1200)
        ∧ ∀ i j : Fin 8, i < j → ((bs.getD (3 * i.val + 1) 0#8) ++ (bs.getD (3 * i.val) 0#8)).toNat
            < ((bs.getD (3 * j.val + 1) 0#8) ++ (bs.getD (3 * j.val) 0#8)).toNat) :=
  ⟨admitted (win 0 []) (by decide +kernel) (by decide +kernel),
   admitted (curveWin 4#8 risingPoints) (by decide +kernel) (by decide +kernel),
   admitted (curveWin 0#8 (List.replicate 24 0#8)) (by decide +kernel)
     ⟨List.replicate 24 0#8, by decide +kernel, by decide +kernel, by decide +kernel⟩,
   admitted (curveWin 3#8 risingPoints) (by decide +kernel)
     ⟨risingPoints, by decide +kernel, by decide +kernel, by decide +kernel, by decide +kernel,
       by decide +kernel⟩⟩

theorem witness_EffectiveSpeedSlewsWhileFresh :
    (SpeedInv inSetup ∧ inSetup.pins.rstAsserted = false ∧ inSetup.speed.freshness = .stale
      ∧ inSetup.speed.staleTimer = none)
    ∧ (SpeedInv (fresh 1200 1199 (some 1)) ∧ (fresh 1200 1199 (some 1)).pins.rstAsserted = false
      ∧ (fresh 1200 1199 (some 1)).speed.freshness = .fresh
      ∧ (fresh 1200 1199 (some 1)).speed.staleTimer = some 1)
    ∧ (SpeedInv (fresh 0 1200 (some 2000)) ∧ (fresh 0 1200 (some 2000)).speed.staleTimer = some 2000 ∧ 1 < 2000)
    ∧ (∀ n, (fresh 0 1200 (some 2000)).speed.staleTimer = some n → 1 < n)
    ∧ (SpeedInv (fresh 7 7 (some 2)) ∧ (fresh 7 7 (some 2)).speed.effective = (fresh 7 7 (some 2)).speed.reported) :=
  ⟨⟨speedInv_of (by decide +kernel) (by decide +kernel) (by decide +kernel) rfl, by decide +kernel⟩,
   ⟨speedInv_fresh _ _ _ (by decide) (by decide), by decide +kernel⟩,
   ⟨speedInv_fresh _ _ _ (by decide) (by decide), by decide +kernel⟩,
   of_some (a := 2000) (P := fun n => 1 < n) rfl (by decide),
   ⟨speedInv_fresh _ _ _ (by decide) (by decide), by decide +kernel⟩⟩

/-- v = 0 lies at point 0, v = 1200 at point 7, v = 360 between points 2 and 3. -/
theorem witness_CurvesInterpolateBetweenPoints :
    (∀ i j : Fin 8, i < j → (worked[i]).speed < (worked[j]).speed)
    ∧ 0 ≤ (worked[(0 : Fin 8)]).speed ∧ (worked[(7 : Fin 8)]).speed ≤ 1200
    ∧ (3 : Fin 8).val = (2 : Fin 8).val + 1 ∧ (worked[(2 : Fin 8)]).speed ≤ 360
    ∧ 360 < (worked[(3 : Fin 8)]).speed
    ∧ (∀ i : Fin 8, 0 ≤ (worked[i]).gain ∧ (worked[i]).gain ≤ 72) := by decide +kernel

/-- The fields of guideFields as R33 reads them. -/
def OpensGuide (fs : List Field) : Prop :=
  natField fs 0x02#8 = some RouteClass.guide.code ∧ natField fs 0x03#8 = some (6 : Fin 16).val
  ∧ natField fs 0x04#8 = some Width.mono.code ∧ (natField fs 0x05#8).bind zonesOfCode = some 1#4
  ∧ intField fs 0x06#8 = some (-20) ∧ (natField fs 0x08#8).bind boolOfCode = some true
  ∧ natField fs 0x09#8 = some (6 : Fin 8).val ∧ placementField fs = some .absent
  ∧ (natField fs 0x0A#8).getD 0 = 4000 ∧ ¬(Width.mono = .stereo ∧ (6 : Fin 16) = 15)

theorem opensGuide (lane : LaneId) : OpensGuide (fieldsOf .openRoute (win lane guideFields)) := by
  have h : ∀ lane : LaneId, OpensGuide (fieldsOf .openRoute (win lane guideFields)) := by
    unfold OpensGuide; decide +kernel
  exact h lane

/-- Thirty routes of lane 0. -/
def thirty : State :=
  { inMode .run with table := { (inMode .run).table with
      slots := Vector.ofFn fun i => if i.val < 30 then ⟨1#8, some liveRoute⟩ else ⟨0#8, none⟩ } }

theorem witness_OpenTakesTheLowestFreeSlot :
    Admitted inSetup .openRoute (fun _ _ u => u.ctl.mode ≠ .run)
    ∧ Admitted (inMode .run) .openRoute (fun _ fs u => u.ctl.mode = .run
        ∧ (natField fs 0x05#8).bind zonesOfCode = none)
    ∧ Admitted (inMode .run) .openRoute (fun _ fs u => u.ctl.mode = .run
        ∧ natField fs 0x04#8 = some Width.stereo.code ∧ natField fs 0x03#8 = some 15)
    ∧ Admitted { inMode .run with table := { (inMode .run).table with quotas := Vector.replicate 4 0 } }
        .openRoute (fun w fs u => u.ctl.mode = .run ∧ OpensGuide fs
          ∧ u.table.quotas[w.lane]
            ≤ (List.finRange 32).countP fun i => (u.routeAt i).any fun r => decide (r.owner = w.lane))
    ∧ Admitted thirty .openRoute (fun w fs u => u.ctl.mode = .run ∧ OpensGuide fs
          ∧ ((List.finRange 32).countP fun i => (u.routeAt i).any fun r => decide (r.owner = w.lane))
            < u.table.quotas[w.lane]
          ∧ 30 ≤ (List.finRange 32).countP fun i => (u.routeAt i).isSome)
    ∧ Admitted (withOne .run liveRoute) .openRoute (fun w fs u => u.ctl.mode = .run ∧ OpensGuide fs
          ∧ ((List.finRange 32).countP fun i => (u.routeAt i).any fun r => decide (r.owner = w.lane))
            < u.table.quotas[w.lane]
          ∧ ((List.finRange 32).countP fun i => (u.routeAt i).isSome) < 30
          ∧ u.routeAt 1 = none ∧ (∀ j : SlotId, j < 1 → (u.routeAt j).isSome = true)
          ∧ 4 ≤ u.link.limits[w.lane]) :=
  ⟨admitted (win 1 guideFields) (by decide +kernel) (by decide +kernel),
   admitted (win 1 [0x05#8, 16#8]) (by decide +kernel) (by decide +kernel),
   admitted (win 1 [0x04#8, 1#8, 0x03#8, 15#8]) (by decide +kernel) (by decide +kernel),
   admitted (win 1 guideFields) (by decide +kernel) ⟨by decide +kernel, opensGuide 1, by decide +kernel⟩,
   admitted (win 1 guideFields) (by decide +kernel) ⟨by decide +kernel, opensGuide 1, by decide +kernel⟩,
   admitted (win 1 guideFields) (by decide +kernel) ⟨by decide +kernel, opensGuide 1, by decide +kernel⟩⟩

theorem witness_HandlesAreAcceptedByGeneration :
    (withOne .run liveRoute).slotOf (some (0, 1#8)) = some (0, liveRoute)
    ∧ Admitted (withOne .run liveRoute) .adjust (fun _ fs u => u.slotOf (handleField fs) = none)
    ∧ Admitted (withOne .run liveRoute) .close (fun _ fs u => u.slotOf (handleField fs) = none)
    ∧ Admitted (withOne .run liveRoute) .query (fun _ fs u => u.slotOf (handleField fs) = none) :=
  ⟨by decide +kernel, admitted (win 3 [1#8, 0#8, 2#8]) (by decide +kernel) (by decide +kernel),
   admitted (win 3 [1#8, 32#8, 1#8]) (by decide +kernel) (by decide +kernel),
   admitted (win 3 [1#8, 31#8, 0#8]) (by decide +kernel) (by decide +kernel)⟩

/-- A CLOSING route. -/
def closingRoute : Route := { liveRoute with state := .closing, cause := some .request }

theorem witness_AdjustChangesTheFieldsItCarries :
    Admitted (withOne .run liveRoute) .adjust (fun w fs u =>
        u.slotOf (handleField fs) = some (0, liveRoute) ∧ w.lane ≠ liveRoute.owner ∧ w.lane ≠ 0)
    ∧ Admitted (withOne .run closingRoute) .adjust (fun w fs u =>
        u.slotOf (handleField fs) = some (0, closingRoute) ∧ w.lane = closingRoute.owner
        ∧ closingRoute.state = .closing)
    ∧ Admitted (withOne .run liveRoute) .adjust (fun w fs u =>
        u.slotOf (handleField fs) = some (0, liveRoute) ∧ w.lane = liveRoute.owner
        ∧ liveRoute.state ≠ .closing
        ∧ ∀ tag ∈ [0x05#8, 0x06#8, 0x07#8, 0x08#8, 0x09#8, 0x0A#8], fieldValue fs tag = none)
    ∧ Admitted (withOne .run liveRoute) .adjust (fun w fs u =>
        u.slotOf (handleField fs) = some (0, liveRoute) ∧ w.lane = liveRoute.owner
        ∧ liveRoute.state ≠ .closing ∧ codeField fs 0x05#8 zonesOfCode = some (some 8#4)
        ∧ placementField fs = some .removal ∧ codeField fs 0x08#8 boolOfCode = some none
        ∧ codeField fs 0x09#8 (finOf 8) = some none
        ∧ ∃ tag ∈ [0x05#8, 0x06#8, 0x07#8, 0x08#8, 0x09#8, 0x0A#8], (fieldValue fs tag).isSome = true) :=
  ⟨admitted (win 3 [1#8, 0#8, 1#8]) (by decide +kernel) (by decide +kernel),
   admitted (win 0 [1#8, 0#8, 1#8]) (by decide +kernel) (by decide +kernel),
   admitted (win 0 [1#8, 0#8, 1#8]) (by decide +kernel) (by decide +kernel),
   admitted (win 0 [1#8, 0#8, 1#8, 5#8, 8#8, 7#8, 1#8, 0#8, 0#8]) (by decide +kernel) (by decide +kernel)⟩

theorem witness_CloseStartsOrCutsTheFade :
    Admitted (withOne .run liveRoute) .close (fun w fs u =>
        u.slotOf (handleField fs) = some (0, liveRoute) ∧ w.lane ≠ liveRoute.owner ∧ w.lane ≠ 0)
    ∧ Admitted (withOne .run liveRoute) .close (fun w fs u =>
        u.slotOf (handleField fs) = some (0, liveRoute) ∧ w.lane = 0
        ∧ ∀ n, natField fs 0x0B#8 = some n → 1 < n)
    ∧ Admitted (withOne .run liveRoute) .close (fun w fs u =>
        u.slotOf (handleField fs) = some (0, liveRoute) ∧ w.lane = 0
        ∧ natField fs 0x0B#8 = some (if false then 1 else 0) ∧ liveRoute.state ≠ .closing)
    ∧ Admitted (withOne .run closingRoute) .close (fun w fs u =>
        u.slotOf (handleField fs) = some (0, closingRoute) ∧ w.lane = 0
        ∧ natField fs 0x0B#8 = some (if true then 1 else 0) ∧ closingRoute.state = .closing)
    ∧ Admitted (withOne .run closingRoute) .close (fun w fs u =>
        u.slotOf (handleField fs) = some (0, closingRoute) ∧ w.lane = 0
        ∧ natField fs 0x0B#8 = some (if false then 1 else 0) ∧ closingRoute.state = .closing) :=
  ⟨admitted (win 3 [1#8, 0#8, 1#8, 0x0B#8, 0#8]) (by decide +kernel) (by decide +kernel),
   admitted (win 0 [1#8, 0#8, 1#8, 0x0B#8, 2#8]) (by decide +kernel)
     ⟨by decide +kernel, by decide +kernel,
       of_some (a := 2) (P := fun n => 1 < n) (by decide +kernel) (by decide)⟩,
   admitted (win 0 [1#8, 0#8, 1#8, 0x0B#8, 0#8]) (by decide +kernel) (by decide +kernel),
   admitted (win 0 [1#8, 0#8, 1#8, 0x0B#8, 1#8]) (by decide +kernel) (by decide +kernel),
   admitted (win 0 [1#8, 0#8, 1#8, 0x0B#8, 0#8]) (by decide +kernel) (by decide +kernel)⟩

/-- A route record whose fields agree with one another, as a check. -/
def soundB (r : Route) : Bool :=
  decide (-480 ≤ r.level ∧ r.level ≤ 0)
  && (r.placement.all fun p => decide (-20 ≤ p.balance ∧ p.balance ≤ 20 ∧ -20 ≤ p.fade ∧ p.fade ≤ 20))
  && decide (r.zones ≠ 0#4) && !decide (r.width = .stereo ∧ r.source = 15)
  && decide (r.cause.isSome = true ↔ r.state = .closing)
  && decide (r.state = .closing → r.holdLeft = none)
  && (r.holdLeft.all fun n => decide (1 ≤ n) && r.holdTime.any fun m => decide (n ≤ m))

theorem sound_of {r : Route} (h : soundB r = true) : r.sound := by
  simp only [soundB, Bool.and_eq_true, decide_eq_true_eq, Bool.not_eq_true', decide_eq_false_iff_not] at h
  obtain ⟨⟨⟨⟨⟨⟨h1, h2⟩, h3⟩, h4⟩, h5⟩, h6⟩, h7⟩ := h
  refine ⟨h1.1, h1.2, fun p hp => ?_, h3, h4, h5, h6, fun n hn => ?_⟩
  · rw [hp] at h2; simpa using h2
  · rw [hn] at h7
    simp only [Option.all_some, Bool.and_eq_true, decide_eq_true_eq, Option.any_eq_true] at h7
    exact h7

/-- The Route Table's invariant as a check. -/
def tableB (s : State) : Bool :=
  decide s.table.order.Nodup
  && decide (∀ i : SlotId, i ∈ s.table.order ↔ (s.routeAt i).isSome = true)
  && decide (∀ i : SlotId, ((s.routeAt i).all fun r =>
      decide ((s.handleAt i).gen ≠ 0#8) && soundB r
        && (decide (s.ctl.mode ≠ .leaving) || decide (r.state = .closing))) = true)
  && decide (s.table.slots.toList.countP (fun slot => slot.route.any fun r => decide (r.cls ≠ .alert)) ≤ 30)
  && decide (∀ i : SlotId, s.prec.spill[i] = true → ((s.routeAt i).any fun r => decide (r.cls = .alert)) = true)
  && decide (s.ctl.mode = .standby ∨ s.ctl.mode = .setup → ∀ i : SlotId, s.routeAt i = none)
  && decide (s.ctl.mode = .leaving → ∃ i : SlotId, (s.routeAt i).isSome = true)
  && decide (∀ lane : LaneId,
      s.table.slots.toList.countP (fun slot => slot.route.any fun r => decide (r.owner = lane))
        ≤ s.table.quotas[lane])

theorem tableInv_of {s : State} (h : tableB s = true) : TableInv s := by
  simp only [tableB, Bool.and_eq_true, decide_eq_true_eq] at h
  obtain ⟨⟨⟨⟨⟨⟨⟨h1, h2⟩, h3⟩, h4⟩, h5⟩, h6⟩, h7⟩, h8⟩ := h
  have each : ∀ (i : SlotId) (r : Route), s.routeAt i = some r →
      (s.handleAt i).gen ≠ 0#8 ∧ r.sound ∧ (s.ctl.mode ≠ .leaving ∨ r.state = .closing) := by
    intro i r hr
    have := h3 i
    rw [hr] at this
    simp only [Option.all_some, Bool.and_eq_true, Bool.or_eq_true, decide_eq_true_eq] at this
    exact ⟨this.1.1, sound_of this.1.2, this.2⟩
  refine ⟨h1, h2, fun i r hr => ⟨(each i r hr).1, (each i r hr).2.1⟩, h8, h4, fun i hi => ?_, h6,
    fun hm => ⟨h7 hm, fun i r hr => (each i r hr).2.2.resolve_left (fun h => h hm)⟩⟩
  have := h5 i hi
  simpa [Option.any_eq_true] using this

/-- A LIVE route whose hold timer runs out at the next event. -/
def expiringRoute : Route := { liveRoute with holdTime := some 65535, holdLeft := some 1 }

theorem witness_QueryAndListReportTheTable :
    Admitted (withOne .run liveRoute) .query (fun _ fs u => u.slotOf (handleField fs) = some (0, liveRoute))
    ∧ Admitted inSetup .list (fun _ fs _ => natField fs 0x0C#8 = none)
    ∧ Admitted (withOne .run liveRoute) .list (fun _ fs u => TableInv u ∧ natField fs 0x0C#8 = some 0
        ∧ u.table.order[0 + 0]? = some 0 ∧ u.routeAt 0 = some liveRoute) :=
  ⟨admitted (win 3 [1#8, 0#8, 1#8]) (by decide +kernel) (by decide +kernel),
   admitted (win 3 []) (by decide +kernel) (by decide +kernel),
   admitted (win 3 [0x0C#8, 0#8]) (by decide +kernel)
     ⟨tableInv_of (by decide +kernel), by decide +kernel⟩⟩

theorem witness_HoldTimersExpireIntoClosing :
    let s := withOne .run expiringRoute
    s.pins.rstAsserted = false ∧ TableInv s ∧ s.routeAt 0 = some expiringRoute
    ∧ expiringRoute.holdLeft = some 1 ∧ s.routeAt 1 = none
    ∧ (let r := { expiringRoute with holdLeft := some 2 };
      (withOne .run r).routeAt 0 = some r ∧ ∀ n, r.holdLeft = some n → 1 < n) :=
  ⟨rfl, tableInv_of (by decide +kernel), rfl, rfl, rfl, rfl,
    of_some (a := 2) (P := fun n => 1 < n) rfl (by decide)⟩

/-- The state with one route in slot 0 and a report that names it settled and silent. -/
def reporting (r : Route) : State :=
  { withOne .run r with table := { (withOne .run r).table with report := some ⟨[⟨0, 1#8⟩], [⟨0, 1#8⟩]⟩ } }

/-- An OPENING route. -/
def openingRoute : Route := { liveRoute with state := .opening }

/-- LEAVING with the last route named silent. -/
def leavingLast : State :=
  { inMode .leaving with table := (reporting closingRoute).table }

theorem witness_ReportsSettleAndFreeRoutes :
    (inSetup.table.report = none)
    ∧ (TableInv (reporting openingRoute) ∧ (reporting openingRoute).pins.rstAsserted = false
      ∧ (reporting openingRoute).table.report = some ⟨[⟨0, 1#8⟩], [⟨0, 1#8⟩]⟩
      ∧ (reporting openingRoute).routeAt 0 = some openingRoute ∧ openingRoute.state = .opening
      ∧ (reporting openingRoute).handleAt 0 = ⟨0, 1#8⟩)
    ∧ (TableInv leavingLast ∧ leavingLast.ctl.mode = .leaving ∧ closingRoute.state = .closing
      ∧ (after .passReport leavingLast).table.order = [])
    ∧ TableInv (reporting liveRoute) ∧ (reporting liveRoute).routeAt 0 = some liveRoute :=
  ⟨rfl,
   ⟨tableInv_of (by decide +kernel), by decide +kernel⟩,
   ⟨tableInv_of (by decide +kernel), by decide +kernel⟩,
   tableInv_of (by decide +kernel), rfl⟩

theorem witness_BalanceAttenuatesTheFarSide : (-20 : Int) ≤ 20 ∧ (20 : Int) ≤ 20 := by decide

/-- In prompted the GUIDE of slot 1 stands against the MEDIA of slot 0 in Z0. -/
theorem witness_DuckTermIsTheStrongestEntry :
    prompted.routeAt 0 = some liveRoute ∧ liveRoute.cls ≠ .alert
    ∧ (∃ ra, StandsAgainst prompted 1 ra 0 liveRoute 0)
    ∧ (withOne .run { liveRoute with cls := .alert }).routeAt 0 = some { liveRoute with cls := .alert } :=
  ⟨rfl, by decide, ⟨_, rfl, by decide +kernel⟩, rfl⟩

/-- An ALERT route in Z3 with no speaker there. -/
def alertRoute : Route := { liveRoute with cls := .alert, owner := 3, zones := 8#4, ramp := 7 }

theorem next_pass (s : State) (h : s.pins.rstAsserted = false) : exec .pass s = .next (after .pass s) := by
  simp [exec, execPass, after, h]

theorem witness_PassDecidesSpillAndKeepsTheRest :
    exec .passReport (reporting liveRoute) = .next (after .passReport (reporting liveRoute))
    ∧ (withOne .run alertRoute).pins.rstAsserted = false ∧ (withOne .run alertRoute).table.report = none
    ∧ (withOne .run alertRoute).routeAt 0 = some alertRoute ∧ alertRoute.cls = .alert
    ∧ alertRoute.state ≠ .closing ∧ 0 ∈ (withOne .run alertRoute).table.order
    ∧ (withOne .run alertRoute).prec.spill[(0 : SlotId)] = false
    ∧ (after .pass (withOne .run alertRoute)).prec.spill[(0 : SlotId)] = true
    ∧ prompted.routeAt 0 = some liveRoute ∧ liveRoute.cls ≠ .alert := by
  refine ⟨rfl, ?_⟩; decide +kernel

/-- The cells of prompted at speaker 0 (governed, Z0) and at the absent speaker 1; a closing route. -/
theorem witness_PassComputesEveryTarget :
    prompted.pins.rstAsserted = false ∧ prompted.table.report = none
    ∧ exec .pass prompted = .next (after .pass prompted) ∧ prompted.routeAt 0 = some liveRoute
    ∧ (prompted.cabin.speakers[(1 : SpeakerId)]).present = false
    ∧ (prompted.cabin.speakers[(0 : SpeakerId)]).place = .zoned 0 ∧ (15#4).getLsbD (0 : Zone).val = true
    ∧ (liveRoute.cls ≠ .alert ∧ (prompted.cabin.zones[(0 : Zone)]).mute = false)
    ∧ State.duckTerm { prompted with prec := (after .pass prompted).prec } 0 0 ≠ 480
    ∧ (withOne .run closingRoute).routeAt 0 = some closingRoute :=
  ⟨rfl, rfl, next_pass _ rfl, rfl, by decide +kernel⟩

/-- In prompted the cell of slot 0 falls, that of slot 1 rises; the cells at speaker 1 hold no lane; a CUT. -/
theorem witness_PassRampsEveryCellOneStep :
    let t := after .pass prompted
    prompted.pins.rstAsserted = false ∧ prompted.table.report = none ∧ exec .pass prompted = .next t
    ∧ prompted.routeAt 0 = some liveRoute ∧ (t.grid[(0 : SpeakerId)]).holds 0 = true
    ∧ ((t.grid[(0 : SpeakerId)]).cells[(0 : SlotId)]).yielding = false
    ∧ ((t.grid[(0 : SpeakerId)]).cells[(0 : SlotId)]).target
      < ((prompted.grid[(0 : SpeakerId)]).cells[(0 : SlotId)]).applied
    ∧ (t.grid[(0 : SpeakerId)]).holds 1 = true
    ∧ ((prompted.grid[(0 : SpeakerId)]).cells[(1 : SlotId)]).applied
      < ((t.grid[(0 : SpeakerId)]).cells[(1 : SlotId)]).target
    ∧ (t.grid[(1 : SpeakerId)]).holds 0 = false :=
  ⟨rfl, rfl, next_pass _ rfl, rfl, by decide +kernel⟩

/-- The cell of slot 0 marked yielding, or its route CUT, on lane 0 of speaker 0. -/
def onLane (r : Route) (yielding : Bool) : State :=
  let s := withSpeaker (withOne .run r) 0 .off
  { s with grid := upd s.grid 0 fun col =>
      { cells := upd col.cells 0 fun _ => ⟨-64, -64, yielding, false⟩, lanes := upd col.lanes 0 fun _ => some 0 } }

/-- The grid is sound when every cell off speaker 0's lane 0 is silent. -/
theorem gridInv_of {s : State}
    (h1 : ∀ (sp : SpeakerId) (i : SlotId),
      -480 ≤ ((s.grid[sp]).cells[i]).target ∧ ((s.grid[sp]).cells[i]).target ≤ 48
      ∧ -480 ≤ ((s.grid[sp]).cells[i]).applied ∧ ((s.grid[sp]).cells[i]).applied ≤ 48
      ∧ ((s.grid[sp]).holds i = false → ((s.grid[sp]).cells[i]).applied = -480)
      ∧ (((s.grid[sp]).cells[i]).yielding = true → (s.grid[sp]).holds i = true)
      ∧ (((s.grid[sp]).cells[i]).waiting = true → (s.grid[sp]).holds i = false))
    (h2 : ∀ (sp : SpeakerId) (k k' : MixId), (s.grid[sp]).lanes[k] ≠ none →
      (s.grid[sp]).lanes[k] = (s.grid[sp]).lanes[k'] → k = k')
    (h3 : ∀ i : SlotId, s.routeAt i = none → ∀ sp : SpeakerId,
      (s.grid[sp]).cells[i] = Cell.silent ∧ (s.grid[sp]).holds i = false)
    (h4 : s.table.report = none)
    (h5 : ∀ sp : SpeakerId, (s.cabin.speakers[sp]).present = false → ∀ i : SlotId,
      (s.grid[sp]).cells[i] = Cell.silent ∧ (s.grid[sp]).holds i = false) : GridInv s :=
  ⟨h1, fun sp i k k' h h' => h2 sp k k' (by rw [h]; simp) (by rw [h, h']), h3,
    fun rep h => absurd h (by simp [h4]), h5⟩

/-- In prompted the cell of slot 1 is granted a lane in the pass. -/
theorem witness_PassRampsEveryCellOneStep_granted :
    TableInv prompted ∧ GridInv prompted ∧ (prompted.grid[(0 : SpeakerId)]).holds 1 = false
    ∧ ((after .pass prompted).grid[(0 : SpeakerId)]).holds 1 = true :=
  ⟨tableInv_of (by decide +kernel),
    gridInv_of (by decide +kernel) (by decide +kernel) (by decide +kernel) rfl (by decide +kernel),
    by decide +kernel⟩

theorem witness_PassRampsEveryCellOneStep_marked :
    (let t := after .pass (onLane liveRoute true);
      (t.grid[(0 : SpeakerId)]).holds 0 = true ∧ ((t.grid[(0 : SpeakerId)]).cells[(0 : SlotId)]).yielding = true)
    ∧ (let r := { closingRoute with cause := some .cut };
      let t := after .pass (onLane r false);
      (t.grid[(0 : SpeakerId)]).holds 0 = true ∧ ((t.grid[(0 : SpeakerId)]).cells[(0 : SlotId)]).yielding = false
      ∧ r.state = .closing ∧ r.cause = some .cut)
    ∧ (let s := onLane { liveRoute with level := 0 } false;
      let s := { s with cabin := { s.cabin with masterLevel := -64 } };
      ((s.grid[(0 : SpeakerId)]).cells[(0 : SlotId)]).applied
        = (((after .pass s).grid[(0 : SpeakerId)]).cells[(0 : SlotId)]).target) := by decide +kernel

theorem witness_PassSettlesTheMixLanes :
    let s := onLane liveRoute false
    let t := after .pass s
    TableInv s ∧ GridInv s ∧ s.pins.rstAsserted = false ∧ s.table.report = none ∧ exec .pass s = .next t
    ∧ s.routeAt 0 = some liveRoute
    ∧ (s.cabin.speakers[(0 : SpeakerId)]).present = true ∧ (s.cabin.speakers[(1 : SpeakerId)]).present = false
    ∧ (s.grid[(0 : SpeakerId)]).lanes[(0 : MixId)] = some 0 :=
  ⟨tableInv_of (by decide +kernel),
    gridInv_of (by decide +kernel) (by decide +kernel) (by decide +kernel) rfl (by decide +kernel),
    rfl, rfl, next_pass _ rfl, rfl, by decide +kernel⟩

/-- Speaker 0 crowded: slots 0 to 7 are MEDIA routes that hold its eight lanes, slot 8 a new CALL. -/
def crowded : State :=
  let s := withSpeaker (inMode .run) 0 .off
  { s with
    table := { s.table with
      slots := Vector.ofFn fun i =>
        if i.val < 8 then ⟨1#8, some liveRoute⟩
        else if i.val = 8 then ⟨255#8, some { liveRoute with owner := 2, cls := .call, state := .opening }⟩
        else ⟨0#8, none⟩
      order := [0, 1, 2, 3, 4, 5, 6, 7, 8] }
    grid := upd s.grid 0 fun col =>
      { cells := Vector.ofFn fun i => if i.val < 8 then ⟨-136, -136, false, false⟩ else col.cells[i]
        lanes := Vector.ofFn fun k => finOf 32 k.val } }

theorem witness_PassSettlesTheMixLanes_crowded :
    let t := after .pass crowded
    TableInv crowded ∧ GridInv crowded ∧ crowded.pins.rstAsserted = false ∧ crowded.table.report = none
    ∧ exec .pass crowded = .next t
    ∧ (crowded.cabin.speakers[(0 : SpeakerId)]).present = true
    ∧ ((t.grid[(0 : SpeakerId)]).cells[(8 : SlotId)]).waiting = true
    ∧ ((crowded.grid[(0 : SpeakerId)]).cells[(8 : SlotId)]).waiting = false
    ∧ ((t.grid[(0 : SpeakerId)]).cells[(7 : SlotId)]).yielding = true
    ∧ ((crowded.grid[(0 : SpeakerId)]).cells[(7 : SlotId)]).yielding = false :=
  ⟨tableInv_of (by decide +kernel),
    gridInv_of (by decide +kernel) (by decide +kernel) (by decide +kernel) rfl (by decide +kernel),
    rfl, rfl, next_pass _ rfl, by decide +kernel⟩

/-- Speaker 0 TRIPPED: its holder has gain −480 at once and releases its lane. -/
theorem witness_PassSettlesTheMixLanes_released :
    let s := (onLane liveRoute false).setProt 0 fun p => { p with state := .tripped, retry := some 9 }
    let t := after .pass s
    TableInv s ∧ GridInv s ∧ exec .pass s = .next t
    ∧ (s.prot.speakers[(0 : SpeakerId)]).state ≠ .normal
    ∧ ¬(-480 < ((t.grid[(0 : SpeakerId)]).cells[(0 : SlotId)]).target)
    ∧ (t.grid[(0 : SpeakerId)]).holds 0 = false :=
  ⟨tableInv_of (by decide +kernel),
    gridInv_of (by decide +kernel) (by decide +kernel) (by decide +kernel) rfl (by decide +kernel),
    next_pass _ rfl, by decide +kernel⟩

theorem witness_PassReportsAndStartsGlides :
    (let s := prompted;
      s.pins.rstAsserted = false ∧ s.table.report = none ∧ exec .pass s = .next (after .pass s)
      ∧ s.mixer.clock = .lost)
    ∧ (let s := { prompted with mixer := { prompted.mixer with clock := .running } };
      s.pins.rstAsserted = false ∧ s.table.report = none ∧ exec .pass s = .next (after .pass s)
      ∧ s.mixer.clock = .running) :=
  ⟨⟨rfl, rfl, next_pass _ rfl, rfl⟩, ⟨rfl, rfl, next_pass _ rfl, rfl⟩⟩

/-- q = 48 is 24·2 − 0, q = −479 is 24·(−19) − 23. -/
theorem witness_LinearGainFollowsTheTable :
    ((-480 : Int) < 48 ∧ (48 : Int) = 24 * 2 - (0 : Fin 24).val ∧ (0 : Int) ≤ 2)
    ∧ ((-480 : Int) < -479 ∧ (-479 : Int) = 24 * (-19) - (23 : Fin 24).val ∧ (-19 : Int) < 0) := by decide

theorem witness_GlidesReachTheirEndInFrames :
    let l : MixLane := ⟨none, 247431, 247431, -120, 0⟩
    l.gain = l.start ∧ l.frames = 0 ∧ 48 ≤ 48 := by decide

/-- Frames run in SETUP; in STANDBY too. -/
theorem witness_FrameEdgesAndClockLoss :
    (running inSetup).pins.rstAsserted = false ∧ (running inSetup).mixer.clock = .running
    ∧ (running State.reset).mixer.clock = .running ∧ (running State.reset).ctl.mode = .standby := by
  decide +kernel

theorem next_frame (s : State) (x : Vector Sample 16) (h : s.pins.rstAsserted = false) :
    exec (.frameEvent x) s = .next (after (.frameEvent x) s) := by
  simp [exec, execFrameEvent, after, h]

theorem witness_FrameEventAdvancesTheSignalPath :
    (inSetup.pins.rstAsserted = false ∧ inSetup.mixer.clock = .lost ∧ inSetup.ctl.mode ≠ .standby)
    ∧ ((running inSetup).mixer.clock = .running
      ∧ 48 ≤ (((running inSetup).mixer.lanes[(0 : SpeakerId)])[(0 : MixId)]).frames)
    ∧ (((after .pass (running inSetup)).mixer.lanes[(0 : SpeakerId)])[(0 : MixId)]).frames < 48 := by
  decide +kernel

theorem witness_OpenSpeakersSendTheirMix :
    let s := running (onLane liveRoute false)
    let x : Vector Sample 16 := Vector.replicate 16 0x7FFFFF#24
    s.pins.rstAsserted = false ∧ exec (.frameEvent x) s = .next (after (.frameEvent x) s)
    ∧ (after (.frameEvent x) s).mixer.gates[(0 : SpeakerId)] = true
    ∧ (∀ n : Fin 4, (s.eq.speakers[(0 : SpeakerId)]).voicing[n] = ⟨4194304, 0, 0, 0, 0⟩)
    ∧ (s.eq.speakers[(0 : SpeakerId)]).low = ⟨4194304, 0, 0, 0, 0⟩
    ∧ (s.eq.speakers[(0 : SpeakerId)]).high = ⟨4194304, 0, 0, 0, 0⟩ :=
  ⟨rfl, next_frame _ _ rfl, by decide +kernel⟩

theorem signalInv_setup : SignalInv inSetup := by
  unfold SignalInv MixLane.sound SectionState.in24 Coeffs.in24 Is24
  refine ⟨?_, ?_, ?_, ?_⟩ <;> decide +kernel

theorem witness_ToneWalksOneStepToItsTarget :
    inSetup.pins.rstAsserted = false ∧ SignalInv inSetup
    ∧ (inSetup.eq.speakers[(0 : SpeakerId)]).walk.isSome = true
    ∧ -12 ≤ (inSetup.cabin.zones[(0 : Zone)]).treble ∧ (inSetup.cabin.zones[(0 : Zone)]).treble ≤ 12
    ∧ (State.reset.eq.speakers[(0 : SpeakerId)]).walk = none :=
  ⟨rfl, signalInv_setup, by decide +kernel⟩

theorem witness_ProtectionIsClearedAndRecovers :
    Admitted inSetup .clearProtect (fun w _ _ => w.lane = 0)
    ∧ (let s := inSetup.setProt 23 fun _ => ⟨.tripped, 0, some 500, 3, none, false⟩;
      s.pins.rstAsserted = false ∧ (s.prot.speakers[(23 : SpeakerId)]).retry.isSome = true)
    ∧ (let s := inSetup.setProt 23 fun _ => ⟨.normal, 0, none, 3, some 2000, false⟩;
      s.pins.rstAsserted = false ∧ (s.prot.speakers[(23 : SpeakerId)]).window.isSome = true)
    ∧ (let s := { inSetup with prot := { inSetup.prot with
          ports := upd inSetup.prot.ports 2 fun _ => ⟨.holding, some 2000⟩ } };
      s.pins.rstAsserted = false ∧ (s.prot.ports[(2 : PortId)]).hold.isSome = true) :=
  ⟨admitted (win 0 []) (by decide +kernel) (by decide +kernel), by decide +kernel⟩

theorem witness_OverloadActsByProtectionMode :
    (withSpeaker (inMode .run) 5 .latch).mixer.clock = .lost
    ∧ (let s := running (withSpeaker (inMode .run) 5 .report);
      s.pins.rstAsserted = false ∧ s.ctl.mode ≠ .standby ∧ s.mixer.clock = .running
      ∧ s.mixer.gates[(5 : SpeakerId)] = true ∧ (s.cabin.speakers[(5 : SpeakerId)]).protMode = .report)
    ∧ (let s := running (withSpeaker (inMode .run) 5 .retryFast);
      s.mixer.clock = .running ∧ (s.cabin.speakers[(5 : SpeakerId)]).protMode = .retryFast ∧ 1 < 4)
    ∧ (let s := running ((withSpeaker (inMode .run) 5 .retrySlow).setProt 5 fun p =>
          { p with repeats := 2, window := some 1 });
      (s.cabin.speakers[(5 : SpeakerId)]).protMode = .retrySlow
      ∧ (s.prot.speakers[(5 : SpeakerId)]).repeats + 1 < 4)
    ∧ (let s := running ((withSpeaker (inMode .run) 5 .retrySlow).setProt 5 fun p =>
          { p with repeats := 3, window := some 1 });
      s.mixer.gates[(5 : SpeakerId)] = true ∧ 4 ≤ (s.prot.speakers[(5 : SpeakerId)]).repeats + 1)
    ∧ (let s := running (withSpeaker (inMode .run) 5 .latch);
      s.mixer.clock = .running ∧ (s.cabin.speakers[(5 : SpeakerId)]).protMode = .latch) := by decide +kernel

theorem protectionInv_of {s : State}
    (h1 : ∀ sp : SpeakerId,
      let p := s.prot.speakers[sp]
      (s.mixer.gates[sp] = true ↔ p.state = .normal) ∧ (p.retry.isSome = true ↔ p.state = .tripped)
      ∧ (p.window.isSome = true → p.state = .normal)
      ∧ (p.retry.all fun n => decide (1 ≤ n ∧ n ≤ 500)) = true
      ∧ (p.window.all fun n => decide (1 ≤ n ∧ n ≤ 2000)) = true
      ∧ p.repeats ≤ 4 ∧ (p.repeats = 4 ↔ p.state = .latched .escalated)
      ∧ p.counter < (s.cabin.speakers[sp]).deglitch
      ∧ (p.state ≠ .normal ∨ p.report = true → s.prot.summary = true))
    (h2 : ∀ port : PortId,
      ((s.prot.ports[port]).hold.isSome = true ↔ (s.prot.ports[port]).state = .holding)
      ∧ ((s.prot.ports[port]).hold.all fun n => decide (1 ≤ n ∧ n ≤ 2000)) = true) : ProtectionInv s := by
  refine ⟨fun sp => ?_, fun port => ⟨(h2 port).1, fun n hn => ?_⟩⟩
  · obtain ⟨a, b, c, d, e, f, g, h, i⟩ := h1 sp
    exact ⟨a, b, c, fun n hn => by rw [hn] at d; simpa using d, fun n hn => by rw [hn] at e; simpa using e,
      f, g, h, i⟩
  · have := (h2 port).2; rw [hn] at this; simpa using this

/-- Speaker 0 tripped with this retry time left, speaker 1 in a window, port 0 holding. -/
def protecting (retry window hold : Nat) : State :=
  { inSetup with
    mixer := { inSetup.mixer with gates := upd inSetup.mixer.gates 0 fun _ => false }
    prot :=
      { speakers := upd (upd inSetup.prot.speakers 0 fun _ => ⟨.tripped, 0, some retry, 1, none, false⟩) 1
          fun _ => ⟨.normal, 0, none, 3, some window, false⟩
        ports := upd inSetup.prot.ports 0 fun _ => ⟨.holding, some hold⟩
        summary := true } }

theorem witness_ThermalLinesAndTimersAreCounted :
    (ProtectionInv (protecting 1 1 1) ∧ (protecting 1 1 1).pins.rstAsserted = false
      ∧ ((protecting 1 1 1).prot.speakers[(0 : SpeakerId)]).retry = some 1
      ∧ ((protecting 1 1 1).prot.speakers[(1 : SpeakerId)]).window = some 1
      ∧ ((protecting 1 1 1).prot.ports[(0 : PortId)]).hold = some 1
      ∧ ((protecting 1 1 1).prot.ports[(1 : PortId)]).state = .clear)
    ∧ (ProtectionInv (protecting 500 2000 2000)
      ∧ ((protecting 500 2000 2000).prot.speakers[(0 : SpeakerId)]).retry = some 500
      ∧ ((protecting 500 2000 2000).prot.speakers[(1 : SpeakerId)]).retry = none
      ∧ ((protecting 500 2000 2000).prot.speakers[(1 : SpeakerId)]).window = some 2000
      ∧ ((protecting 500 2000 2000).prot.ports[(0 : PortId)]).hold = some 2000) :=
  ⟨⟨protectionInv_of (by decide +kernel) (by decide +kernel), by decide +kernel⟩,
   ⟨protectionInv_of (by decide +kernel) (by decide +kernel), by decide +kernel⟩⟩

theorem witness_ModeChangesOnlyByItsEvents :
    Instr.endOfWakeUp.wf = true ∧ exec .endOfWakeUp State.reset = .next inSetup
    ∧ inSetup.ctl.mode ≠ State.reset.ctl.mode :=
  ⟨rfl, rfl, by decide +kernel⟩

theorem witness_SettingsChangeOnlyByTheirRequest :
    let w := win 0 [0x11#8, 99#8, 0#8]
    (Instr.setStale w).wf = true ∧ exec (.setStale w) inSetup = .next (after (.setStale w) inSetup)
    ∧ (∀ lines, Instr.setStale w ≠ .powerOn lines ∧ Instr.setStale w ≠ .rstNRelease lines)
    ∧ (after (.setStale w) inSetup).speed.staleTime ≠ inSetup.speed.staleTime :=
  ⟨rfl, rfl, fun _ => ⟨nofun, nofun⟩, by decide +kernel⟩

theorem witness_ClientLanesCannotConfigure :
    let w := win 3 [0x01#8, 0#8, 1#8]
    let s := withOne .run liveRoute
    w.lane ≠ 0 ∧ exec (commandOf .close w) s = .next (after (commandOf .close w) s)
    ∧ s.routeAt 0 = some liveRoute ∧ liveRoute.owner ≠ w.lane :=
  ⟨by decide, rfl, rfl, by decide⟩

theorem witness_invariants :
    CabinInv inSetup ∧ TablesInv inSetup ∧ SpeedInv inSetup ∧ TableInv (withOne .run liveRoute)
    ∧ GridInv (onLane liveRoute false) ∧ TablesInv (onLane liveRoute false)
    ∧ ProtectionInv (protecting 1 1 1) ∧ LinkInv inSetup ∧ ModeInv (cranked (some 1)) ∧ SignalInv inSetup := by
  refine ⟨by unfold CabinInv; decide +kernel, ⟨?_, ?_, by decide +kernel, by decide +kernel⟩,
    speedInv_of (by decide +kernel) (by decide +kernel) (by decide +kernel) rfl,
    tableInv_of (by decide +kernel),
    witness_PassSettlesTheMixLanes.2.1, ⟨?_, ?_, by decide +kernel, by decide +kernel⟩,
    witness_ThermalLinesAndTimersAreCounted.1.1, ?_, modeInv_cranked _ (by decide), signalInv_setup⟩
  · intro a v; cases a <;> cases v <;> decide +kernel
  · intro a; cases a <;> decide +kernel
  · intro a v; cases a <;> cases v <;> decide +kernel
  · intro a; cases a <;> decide +kernel
  · exact ⟨by decide +kernel, fun r h => absurd h (by simp [show inSetup.link.queue = [] from rfl]),
      by decide +kernel, by decide +kernel, fun bs h => (by cases h), fun _ => rfl, by decide +kernel⟩

/-- Each step from a state that meets an invariant: PASS from the queue's front. -/
theorem witness_steps :
    let s := { onLane liveRoute false with pending := [.pass] }
    step s = .next (after .pass (onLane liveRoute false)) := next_pass _ rfl

end Sys2Proof.Machine.Tests
end

section
/-! PROOF. The placement attenuations of R12 to R14. Balance and fade are one rule read along two axes, and
a RIGHT speaker mirrors a LEFT one, so LEFT and CENTRE under the balance carry the whole of it. -/
namespace Sys2Proof.Machine

theorem placementAtt_of_lt {k : Int} (h : k < 20) : placementAtt k = some (6 * k) := if_pos h

theorem placementAtt_eq_none_iff {k : Int} : placementAtt k = none ↔ 20 ≤ k := by
  simp [placementAtt]

/-- R12's table on its own range: position 20 is the only silent one. -/
theorem placementAtt_of_le {k : Int} (h : k ≤ 20) :
    placementAtt k = if k = 20 then none else some (6 * k) := by
  by_cases hk : k = 20
  · rw [if_pos hk, placementAtt_eq_none_iff, hk]
  · rw [if_neg hk, placementAtt_of_lt (by omega)]

theorem balanceAtt_left (b : Int) :
    balanceAtt b .left = if 0 < b then placementAtt b else some 0 := rfl

theorem balanceAtt_right (b : Int) :
    balanceAtt b .right = if b < 0 then placementAtt (-b) else some 0 := rfl

theorem balanceAtt_centre (b : Int) : balanceAtt b .centre = placementAtt (|b| / 2) := rfl

theorem balanceAtt_right_eq_left_neg (b : Int) : balanceAtt b .right = balanceAtt (-b) .left := by
  rw [balanceAtt_left, balanceAtt_right]
  simp only [Int.neg_pos]

theorem balanceAtt_left_eq_none_iff (b : Int) : balanceAtt b .left = none ↔ 20 ≤ b := by
  rw [balanceAtt_left]
  by_cases hb : 0 < b
  · rw [if_pos hb, placementAtt_eq_none_iff]
  · simp only [if_neg hb, reduceCtorEq, false_iff]
    omega

theorem balanceAtt_right_eq_none_iff (b : Int) : balanceAtt b .right = none ↔ b ≤ -20 := by
  rw [balanceAtt_right_eq_left_neg, balanceAtt_left_eq_none_iff]
  omega

/-- Half the magnitude is at most position 10, so a CENTRE speaker is never silenced. -/
theorem balanceAtt_centre_of_range {b : Int} (hlo : -20 ≤ b) (hhi : b ≤ 20) :
    balanceAtt b .centre = some (6 * ((b.natAbs / 2 : Nat) : Int)) ∧ b.natAbs / 2 ≤ 10 := by
  have half : |b| / 2 = ((b.natAbs / 2 : Nat) : Int) := by
    rw [Int.abs_eq_natAbs, Int.natCast_div, Nat.cast_ofNat]
  have bound : b.natAbs / 2 ≤ 10 := by omega
  rw [balanceAtt_centre, half]
  exact ⟨placementAtt_of_lt (by omega), bound⟩

theorem fadeAtt_front_eq_balanceAtt_left (f : Int) : fadeAtt f .front = balanceAtt f .left := rfl

theorem fadeAtt_rear_eq_balanceAtt_right (f : Int) : fadeAtt f .rear = balanceAtt f .right := rfl

theorem fadeAtt_middle_eq_balanceAtt_centre (f : Int) : fadeAtt f .middle = balanceAtt f .centre := rfl

/-- Settles O35: each side by its own law, and each row as the side that it mirrors. -/
theorem balanceAttenuatesTheFarSide : Obligations.BalanceAttenuatesTheFarSide := by
  intro b hlo hhi att
  have left : balanceAtt b .left = if 0 < b then att b else some 0 := by
    rw [balanceAtt_left, placementAtt_of_le hhi]
  have right : balanceAtt b .right = if b < 0 then att (-b) else some 0 := by
    rw [balanceAtt_right, placementAtt_of_le (by omega)]
  obtain ⟨centre_eq, half_le⟩ := balanceAtt_centre_of_range hlo hhi
  have centre : balanceAtt b .centre = if b = 0 then some 0 else att (b.natAbs / 2 : Nat) := by
    rw [centre_eq]
    by_cases hb : b = 0
    · simp [hb]
    · rw [if_neg hb, show att (b.natAbs / 2 : Nat) = _ from if_neg (by omega)]
  have centre_bounded : ∃ a, balanceAtt b .centre = some a ∧ 0 ≤ a ∧ a ≤ 60 :=
    ⟨_, centre_eq, by omega, by omega⟩
  have left_silent : balanceAtt b .left = none ↔ b = 20 := by
    rw [balanceAtt_left_eq_none_iff]
    omega
  have right_silent : balanceAtt b .right = none ↔ b = -20 := by
    rw [balanceAtt_right_eq_none_iff]
    omega
  rw [fadeAtt_front_eq_balanceAtt_left, fadeAtt_rear_eq_balanceAtt_right,
    fadeAtt_middle_eq_balanceAtt_centre]
  exact ⟨left, right, centre, centre_bounded, left_silent, right_silent,
    left, right, centre, centre_bounded, left_silent, right_silent⟩

end Sys2Proof.Machine
end

section
/-! SUPPORT. What any request is in a window that is not taken, on a lane that may not use it, and when its
owner answers without data; and how the class codes and two-byte numbers of a payload read back. -/
namespace Sys2Proof.Machine

/-- No packet is taken in STANDBY (R164): a request leaves only the end of its window. -/
theorem State.request_standby {s : State} (h : s.ctl.mode = .standby) (k : Kind) (w : Window)
    (owner : Owner) :
    s.request k w owner = { s with link := { s.link with window := .idle, sdo := [] } } := by
  rw [State.request, State.takeWindow_untaken (s.windowFixed_eq_none_iff.mpr (.inr (.inl h))),
    State.dropWindow]

/-- A kind that R183 keeps for lane 0 is answered DENIED on the others, whatever its owner does. -/
theorem headLaneOnly_of_headOnly {k : Kind} {c : Window → Instr} {owner : Owner}
    (hk : headOnly k = true) (hc : ∀ w s, exec (c w) s = .next (s.request k w owner)) :
    HeadLaneOnly k c := by
  intro s w u ha hl
  rw [hc, State.request_denied ha (not_permitted hk hl)]

/-- DONE or ADJUSTED without data, by the condition that the flag stands for. -/
theorem Answer.payload_taken {adjusted : Bool} {p : Prop} [Decidable p] (h : adjusted = true ↔ p)
    (limit : Nat) : (Answer.taken adjusted).payload limit = dataless (doneOr p) := by
  simp only [Answer.taken, Answer.payload_plain, doneOr, h]

@[simp] theorem RouteClass.ofCode_code (cls : RouteClass) : RouteClass.ofCode cls.code = some cls := by
  cases cls <;> rfl

/-- No two classes share a row or column of the duck matrix (R53). -/
theorem RouteClass.index_injective : Function.Injective RouteClass.index := by
  intro a b
  cases a <;> cases b <;> decide

/-- A two-byte number, low byte first (section 10.9). -/
theorem leNat_pair (lo hi : Byte) : leNat [lo, hi] = (hi ++ lo).toNat := by
  have h := lo.isLt
  rw [BitVec.toNat_append, ← Nat.shiftLeft_add_eq_or_of_lt h, Nat.shiftLeft_eq]
  simp only [leNat]
  omega

theorem clampNat_zero (hi x : Nat) : clampNat 0 hi x = min x hi := by
  rw [clampNat_eq (Nat.zero_le hi), Nat.zero_max]

end Sys2Proof.Machine
end

section
/-! PROOF. LOAD_DUCK (R54): its owner's two outcomes, each said once over the attenuations as numbers, and
the obligation from them by the laws of requests. -/
namespace Sys2Proof.Machine

theorem exec_loadDuck (w : Window) (s : State) :
    exec (.loadDuck w) s = .next (s.request .loadDuck w takeLoadDuck) := rfl

theorem takeLoadDuck_badarg {fs : List Field}
    (h : (natField fs 0x02#8).bind RouteClass.ofCode = none ∨ fieldValue fs 0x30#8 = none)
    (lane : LaneId) (u : State) : takeLoadDuck lane fs u = (u, .plain .badarg) := by
  rcases h with h | h
  · simp only [takeLoadDuck, h]
  · rw [takeLoadDuck, h]
    cases (natField fs 0x02#8).bind RouteClass.ofCode <;> rfl

/-- Five attenuations replace the row. The flag of the four clamped ones is that a value lay above 480, for
none lies below 0; the ALERT one becomes 0 and is changed whenever it was not 0. -/
theorem takeLoadDuck_row {fs : List Field} {cls : RouteClass} {media chime guide call alert : Nat}
    (hcls : natField fs 0x02#8 = some cls.code)
    (hatt : (fieldValue fs 0x30#8).map attenuations = some [media, chime, guide, call, alert])
    (lane : LaneId) (u : State) :
    takeLoadDuck lane fs u =
      ({ u with prec := { u.prec with
          duck := upd u.prec.duck cls.index fun _ =>
            #v[min media 480, min chime 480, min guide 480, min call 480, 0] } },
        .taken (decide (480 < media ∨ 480 < chime ∨ 480 < guide ∨ 480 < call ∨ alert ≠ 0))) := by
  have changed (x : Nat) : min x 480 ≠ x ↔ 480 < x := by omega
  simp only [takeLoadDuck, hcls, hatt, Option.bind_some, RouteClass.ofCode_code, clampNat_zero, changed,
    List.any_cons, List.any_nil, Bool.or_false, Bool.decide_or, Bool.or_assoc]

/-- Settles O21: the lane and mode clauses are those of any lane 0 request, and an admitted one is its
owner's outcome. -/
theorem loadDuckReplacesOneRow : Obligations.LoadDuckReplacesOneRow := by
  refine ⟨headLaneOnly_of_headOnly rfl exec_loadDuck, ?standby, ?admitted⟩
  case standby =>
    intro s w h
    rw [exec_loadDuck, State.request_standby h]
  case admitted =>
    intro s w fs u ha
    rw [exec_loadDuck, State.request_admitted ha]
    refine ⟨fun h => ?badarg, fun cls b0 b1 b2 b3 b4 b5 b6 b7 b8 b9 hcls hval => ?row⟩
    case badarg =>
      rw [takeLoadDuck_badarg h, State.answer_eq, Answer.payload_plain, State.replied]
    case row =>
      intro media chime guide call alert
      have hatt : (fieldValue fs 0x30#8).map attenuations = some [media, chime, guide, call, alert] := by
        simp only [hval, Option.map_some, attenuations, leNat_pair, media, chime, guide, call, alert]
      rw [takeLoadDuck_row hcls hatt, State.answer_eq, Answer.payload_taken decide_eq_true_iff]
      exact ⟨_, rfl, upd_self .., fun other hne =>
        upd_ne _ _ _ _ (RouteClass.index_injective.ne hne)⟩

end Sys2Proof.Machine
end

section
/-! PROOF. LOAD_CURVE (R79, R80): what the points of a payload are and when their speeds rise, its owner's
outcomes said once over eight points, and the obligation from them by the laws of requests. -/
namespace Sys2Proof.Machine

theorem exec_loadCurve (w : Window) (s : State) :
    exec (.loadCurve w) s = .next (s.request .loadCurve w takeLoadCurve) := rfl

/-- Point i as sent: its speed in two bytes, low byte first, and its gain in the third (section 10.9). -/
def sentPoint (bs : List Byte) (i : Nat) : CurvePoint :=
  ⟨((bs.getD (3 * i + 1) 0#8) ++ (bs.getD (3 * i) 0#8)).toNat, (bs.getD (3 * i + 2) 0#8).toInt⟩

theorem sentPoint_zero (a b g : Byte) (rest : List Byte) :
    sentPoint (a :: b :: g :: rest) 0 = ⟨leNat [a, b], g.toInt⟩ := by
  rw [leNat_pair]
  rfl

theorem sentPoint_succ (a b g : Byte) (rest : List Byte) (i : Nat) :
    sentPoint (a :: b :: g :: rest) (i + 1) = sentPoint rest i := rfl

/-- Three bytes a point, so n points when 3 * n bytes are sent. -/
theorem curvePoints_eq_ofFn {n : Nat} {bs : List Byte} (h : bs.length = 3 * n) :
    curvePoints bs = List.ofFn fun i : Fin n => sentPoint bs i.val := by
  induction n generalizing bs with
  | zero =>
    rw [List.eq_nil_of_length_eq_zero h, List.ofFn_zero]
    rfl
  | succ n ih =>
    match bs, h with
    | a :: b :: g :: rest, h =>
      have hrest : rest.length = 3 * n := by
        simp only [List.length_cons] at h
        omega
      simp only [curvePoints, List.ofFn_succ, Fin.val_zero, Fin.val_succ, sentPoint_zero, sentPoint_succ,
        ih hrest]

/-- The model compares neighbours; being transitive, the order then holds between any two points. -/
theorem risingSpeeds_iff_pairwise (ps : List CurvePoint) :
    risingSpeeds ps = true ↔ (ps.map (·.speed)).Pairwise (· < ·) := by
  rw [← List.isChain_iff_pairwise]
  induction ps with
  | nil => simp [risingSpeeds]
  | cons a ps ih =>
    cases ps with
    | nil => simp [risingSpeeds]
    | cons b rest =>
      simp only [risingSpeeds, Bool.and_eq_true, decide_eq_true_eq, List.map_cons,
        List.isChain_cons_cons] at ih ⊢
      rw [ih]

/-- The points LOAD_CURVE accepts: no speed above 1200, and speeds that rise strictly (R79, R80). -/
def LoadablePoints (p : Fin 8 → CurvePoint) : Prop :=
  (∀ i, (p i).speed ≤ 1200) ∧ ∀ i j, i < j → (p i).speed < (p j).speed

theorem not_loadablePoints {p : Fin 8 → CurvePoint}
    (h : (∃ i, 1200 < (p i).speed) ∨ ∃ i j, i < j ∧ (p j).speed ≤ (p i).speed) :
    ¬ LoadablePoints p := by
  rintro ⟨bounded, rising⟩
  rcases h with ⟨i, above⟩ | ⟨i, j, hij, falls⟩
  · exact Nat.not_le.mpr above (bounded i)
  · exact Nat.not_lt.mpr falls (rising i j hij)

theorem loadable_check_iff (p : Fin 8 → CurvePoint) :
    ((List.ofFn p).all (fun q => decide (q.speed ≤ 1200)) && risingSpeeds (List.ofFn p)) = true
      ↔ LoadablePoints p := by
  rw [Bool.and_eq_true, List.all_eq_true, List.forall_mem_ofFn_iff, risingSpeeds_iff_pairwise,
    List.pairwise_map, List.pairwise_ofFn, LoadablePoints]
  simp only [decide_eq_true_eq]

theorem takeLoadCurve_badarg {fs : List Field}
    (h : (natField fs 0x31#8).bind (finOf 4) = none ∨ fieldValue fs 0x32#8 = none)
    (lane : LaneId) (u : State) : takeLoadCurve lane fs u = (u, .plain .badarg) := by
  rcases h with h | h
  · simp only [takeLoadCurve, h]
  · rw [takeLoadCurve, h]
    cases (natField fs 0x31#8).bind (finOf 4) <;> rfl

section
variable {fs : List Field} {p : Fin 8 → CurvePoint}
  (hp : (fieldValue fs 0x32#8).map curvePoints = some (List.ofFn p))
include hp

theorem takeLoadCurve_of_not_loadable (h : ¬ LoadablePoints p) (lane : LaneId) (u : State) :
    takeLoadCurve lane fs u = (u, .plain .badarg) := by
  cases hc : (natField fs 0x31#8).bind (finOf 4) with
  | none => exact takeLoadCurve_badarg (.inl hc) lane u
  | some c =>
    rw [takeLoadCurve, hc, hp]
    exact if_neg (mt (loadable_check_iff p).mp h)

theorem takeLoadCurve_of_loadable {c : Fin 4} (hc : natField fs 0x31#8 = some c.val)
    (h : LoadablePoints p) (lane : LaneId) (u : State) :
    takeLoadCurve lane fs u =
      ({ u with speed := { u.speed with
          curves := upd u.speed.curves c fun _ =>
            Vector.ofFn fun i => ⟨(p i).speed, clampTo 0 72 (p i).gain⟩ } },
        .taken ((List.ofFn p).any fun q => decide (clampTo 0 72 q.gain ≠ q.gain))) := by
  rw [takeLoadCurve, hc, hp, Option.bind_some, finOf_val]
  exact if_pos ((loadable_check_iff p).mpr h)

end

/-- ADJUSTED stands for some gain outside 0..72. -/
theorem any_gain_clamped_iff (p : Fin 8 → CurvePoint) :
    ((List.ofFn p).any fun q => decide (clampTo 0 72 q.gain ≠ q.gain)) = true
      ↔ ∃ i, (p i).gain < 0 ∨ 72 < (p i).gain := by
  simp only [List.any_eq_true, decide_eq_true_eq, clampTo_ne_iff (show (0 : Int) ≤ 72 by decide),
    List.mem_ofFn, exists_exists_eq_and]

theorem curveIndex_eq_none {fs : List Field}
    (h : fieldValue fs 0x31#8 = none ∨ ∃ c, natField fs 0x31#8 = some c ∧ 3 < c) :
    (natField fs 0x31#8).bind (finOf 4) = none := by
  rcases h with absent | ⟨c, hc, above⟩
  · rw [natField, absent]
    rfl
  · rw [hc, Option.bind_some]
    exact finOf_eq_none.mpr above

theorem doneOr_cases (p : Prop) [Decidable p] : doneOr p = .done ∨ doneOr p = .adjusted := by
  unfold doneOr
  split <;> simp

theorem doneOr_eq_adjusted_iff (p : Prop) [Decidable p] : doneOr p = .adjusted ↔ p := by
  unfold doneOr
  split <;> simp [*]

/-- Settles O25: the lane clause is that of any lane 0 request, and an admitted one is its owner's outcome
on the eight points its bytes spell. -/
theorem loadCurveReplacesOneCurve : Obligations.LoadCurveReplacesOneCurve := by
  refine ⟨headLaneOnly_of_headOnly rfl exec_loadCurve, fun s w fs u ha => ?_⟩
  have refused (h : takeLoadCurve w.lane fs u = (u, .plain .badarg)) :
      exec (.loadCurve w) s = .next { u with link := u.replied .loadCurve w (dataless .badarg) } := by
    rw [exec_loadCurve, State.request_admitted ha, h, State.answer_eq, Answer.payload_plain, State.replied]
  refine ⟨fun h => refused (takeLoadCurve_badarg ?fields _ _), ?points⟩
  case fields =>
    rcases h with h | h | h
    · exact .inl (curveIndex_eq_none (.inl h))
    · exact .inr h
    · exact .inl (curveIndex_eq_none (.inr h))
  case points =>
    intro bs hbs hlen speed gain
    have hp : (fieldValue fs 0x32#8).map curvePoints = some (List.ofFn fun i : Fin 8 => sentPoint bs i) := by
      rw [hbs, Option.map_some, curvePoints_eq_ofFn (n := 8) hlen]
    refine ⟨fun h => refused (takeLoadCurve_of_not_loadable hp (not_loadablePoints h) _ _),
      fun c hc bounded rising => ?_⟩
    rw [exec_loadCurve, State.request_admitted ha, takeLoadCurve_of_loadable hp hc ⟨bounded, rising⟩,
      State.answer_eq, Answer.payload_taken (any_gain_clamped_iff _)]
    refine ⟨_, _, rfl, fun i => ?entry, fun other hne => upd_ne _ _ _ _ hne,
      doneOr_cases _, doneOr_eq_adjusted_iff _⟩
    case entry =>
      have clamp : clampTo 0 72 (gain i) = max 0 (min (gain i) 72) := clampTo_eq (by decide) _
      rw [upd_get, if_pos rfl, ofFn_get, ← clamp]
      rfl

end Sys2Proof.Machine
end

section
/-! PROOF. LOAD_RAMP (R100): its owner's two outcomes, each said once, and the obligation from them by the
laws of requests. -/
namespace Sys2Proof.Machine

theorem exec_loadRamp (w : Window) (s : State) :
    exec (.loadRamp w) s = .next (s.request .loadRamp w takeLoadRamp) := rfl

theorem takeLoadRamp_badarg {fs : List Field}
    (h : natField fs 0x33#8 = none ∨ natField fs 0x34#8 = none
      ∨ (natField fs 0x09#8).bind (finOf 8) = none)
    (lane : LaneId) (u : State) : takeLoadRamp lane fs u = (u, .plain .badarg) := by
  rw [takeLoadRamp]
  rcases h with rise | fall | profile
  · rw [rise]
    cases (natField fs 0x09#8).bind (finOf 8) <;> rfl
  · rw [fall]
    cases (natField fs 0x09#8).bind (finOf 8) <;> cases natField fs 0x33#8 <;> rfl
  · rw [profile]

theorem rampProfile_eq_none {fs : List Field}
    (h : natField fs 0x09#8 = none ∨ ∃ p, natField fs 0x09#8 = some p ∧ 7 < p) :
    (natField fs 0x09#8).bind (finOf 8) = none := by
  rcases h with absent | ⟨p, hp, above⟩
  · rw [absent, Option.bind_none]
  · rw [hp, Option.bind_some]
    exact finOf_eq_none.mpr above

/-- Both rates of the named profile are replaced together, each as clamped to 1..480. -/
theorem takeLoadRamp_profile {fs : List Field} {p : Fin 8} {rise fall : Nat}
    (hp : natField fs 0x09#8 = some p.val) (hrise : natField fs 0x33#8 = some rise)
    (hfall : natField fs 0x34#8 = some fall) (lane : LaneId) (u : State) :
    takeLoadRamp lane fs u =
      ({ u with ramps := upd u.ramps p fun _ =>
          ⟨((max 1 (min rise 480) : Nat) : Int), ((max 1 (min fall 480) : Nat) : Int)⟩ },
        .taken (decide (rise < 1 ∨ 480 < rise ∨ fall < 1 ∨ 480 < fall))) := by
  have changed (x : Nat) : max 1 (min x 480) ≠ x ↔ x < 1 ∨ 480 < x := by omega
  simp only [takeLoadRamp, hp, hrise, hfall, Option.bind_some, finOf_val,
    clampNat_eq (show 1 ≤ 480 by decide), changed, Bool.decide_or, Bool.or_assoc]

/-- Settles O22: the lane and mode clauses are those of any lane 0 request, and an admitted one is its
owner's outcome. -/
theorem loadRampReplacesOneProfile : Obligations.LoadRampReplacesOneProfile := by
  refine ⟨headLaneOnly_of_headOnly rfl exec_loadRamp, ?standby, ?admitted⟩
  case standby =>
    intro s w h
    rw [exec_loadRamp, State.request_standby h]
  case admitted =>
    intro s w fs u ha
    rw [exec_loadRamp, State.request_admitted ha]
    refine ⟨fun h => ?badarg, fun p rise fall hp hrise hfall => ?profile⟩
    case badarg =>
      rw [takeLoadRamp_badarg (h.imp_right (Or.imp_right rampProfile_eq_none)), State.answer_eq,
        Answer.payload_plain, State.replied]
    case profile =>
      rw [takeLoadRamp_profile hp hrise hfall, State.answer_eq, Answer.payload_taken decide_eq_true_iff]
      exact ⟨_, rfl, upd_self .., fun other hne => upd_ne _ _ _ _ hne⟩

end Sys2Proof.Machine
end

section
/-! SUPPORT. What the Lane Arbiter's four steps at one speaker do to a column, each said once: who holds a
lane after it, which gains and marks it leaves, and that a cell granted a lane outranks every candidate left
over, so that the yield step cannot mark it (R116 to R119). -/
namespace Sys2Proof.Machine

/-- The gains of a cell, which arbitration reads and never changes (R115). -/
def Cell.gains (c : Cell) : Int × Int := (c.target, c.applied)

theorem Cell.gains_eq_iff {c d : Cell} :
    c.gains = d.gains ↔ c.target = d.target ∧ c.applied = d.applied := Prod.mk_inj

theorem Column.holds_iff {col : Column} {i : SlotId} :
    col.holds i = true ↔ ∃ k : MixId, col.lanes[k] = some i := by
  rw [Column.holds, decide_eq_true_iff, mem_toList_iff]

/-- Who holds a lane is read from the lanes alone. -/
theorem Column.holds_congr {col col' : Column} (h : col'.lanes = col.lanes) : col'.holds = col.holds := by
  funext i
  rw [Column.holds, Column.holds, h]

/-! ### Release (R116) -/

theorem Column.release_cell (col : Column) (i : SlotId) :
    col.release.cells[i] =
      if col.holds i && (col.cells[i]).releases then { col.cells[i] with yielding := false }
      else col.cells[i] := ofFn_get _ i

theorem Column.release_gains (col : Column) (i : SlotId) :
    (col.release.cells[i]).gains = (col.cells[i]).gains := by
  rw [Column.release_cell]
  split <;> rfl

theorem Column.release_lane_eq_some {col : Column} {i : SlotId} {k : MixId} :
    col.release.lanes[k] = some i ↔ col.lanes[k] = some i ∧ (col.cells[i]).releases = false := by
  have lane : col.release.lanes[k] = match col.lanes[k] with
      | some i => if (col.cells[i]).releases then none else some i
      | none => none := ofFn_get _ k
  rw [lane]
  cases hk : col.lanes[k] with
  | none => simp only [reduceCtorEq, false_and]
  | some j =>
    by_cases hj : (col.cells[j]).releases = true
    · simp only [hj, if_true, reduceCtorEq, Option.some.injEq, false_iff, not_and]
      rintro rfl
      simp only [hj, Bool.true_eq_false, not_false_eq_true]
    · simp only [if_neg hj, Option.some.injEq]
      refine ⟨?_, And.left⟩
      rintro rfl
      exact ⟨rfl, Bool.eq_false_iff.mpr hj⟩

theorem Column.release_holds (col : Column) (i : SlotId) :
    col.release.holds i = (col.holds i && !(col.cells[i]).releases) := by
  rw [Bool.eq_iff_iff, Bool.and_eq_true, Bool.not_eq_true', Column.holds_iff, Column.holds_iff]
  simp only [Column.release_lane_eq_some, exists_and_right]

/-- A cell without a lane after the release step is unmarked then: the release step clears the mark of the
cells it takes a lane from, and no other cell without a lane has one. -/
theorem Column.release_yielding_of_unheld {col : Column} {i : SlotId}
    (marked_holds : (col.cells[i]).yielding = true → col.holds i = true)
    (unheld : col.release.holds i = false) : (col.release.cells[i]).yielding = false := by
  rw [Column.release_holds] at unheld
  rw [Column.release_cell]
  cases held : col.holds i with
  | false =>
    simp only [Bool.false_and, Bool.false_eq_true, if_false]
    exact Bool.eq_false_iff.mpr fun marked => by simp [marked_holds marked] at held
  | true =>
    have released : (col.cells[i]).releases = true := by simpa [held] using unheld
    rw [released, Bool.and_self, if_pos rfl]

/-- A yielding cell at -480 releases its lane whatever its target (R116). -/
theorem Cell.releases_of_yielding {c : Cell} (silent : c.applied = -480) (marked : c.yielding = true) :
    c.releases = true := by
  rw [Cell.releases, silent, marked, Bool.or_true, decide_eq_true rfl, Bool.and_self]

/-! ### Grant (R117) -/

theorem Column.freeLane_isNone {col : Column} {k : MixId} (h : col.freeLane = some k) :
    col.lanes[k] = none := by
  rw [Column.freeLane] at h
  exact Option.isNone_iff_eq_none.mp (List.find?_some (p := fun k : MixId => (col.lanes[k]).isNone) h)

/-- The column after the free lane k is granted to slot i. -/
def Column.give (col : Column) (k : MixId) (i : SlotId) : Column :=
  { col with lanes := upd col.lanes k fun _ => some i }

theorem Column.give_holds {col : Column} {k : MixId} (h : col.lanes[k] = none) (i j : SlotId) :
    (col.give k i).holds j = true ↔ j = i ∨ col.holds j = true := by
  have lane (k' : MixId) : (col.give k i).lanes[k'] = if k' = k then some i else col.lanes[k'] := upd_get ..
  simp only [Column.holds_iff, lane]
  constructor
  · rintro ⟨k', hk'⟩
    split at hk'
    · exact .inl (Option.some.inj hk').symm
    · exact .inr ⟨k', hk'⟩
  · rintro (rfl | ⟨k', hk'⟩)
    · exact ⟨k, if_pos rfl⟩
    · have ne : k' ≠ k := by
        rintro rfl
        rw [h] at hk'
        cases hk'
      exact ⟨k', by rw [if_neg ne, hk']⟩

/-- The grant step at its first route: a candidate takes the free lane, if there is one; any other route is
passed over. -/
theorem Column.grant_cons_cases (col : Column) (i : SlotId) (rest : List SlotId) :
    (∃ k, col.candidate i = true ∧ col.freeLane = some k
      ∧ col.grant (i :: rest) = (col.give k i).grant rest)
    ∨ (col.candidate i = true → col.freeLane = none) ∧ col.grant (i :: rest) = col.grant rest := by
  rw [Column.grant]
  by_cases hc : col.candidate i = true
  · rw [if_pos hc]
    cases hk : col.freeLane with
    | none => exact .inr ⟨fun _ => rfl, rfl⟩
    | some k => exact .inl ⟨k, hc, rfl, rfl⟩
  · rw [if_neg hc]
    exact .inr ⟨fun h => absurd h hc, rfl⟩

@[simp] theorem Column.grant_cells (l : List SlotId) (col : Column) : (col.grant l).cells = col.cells := by
  induction l generalizing col with
  | nil => rfl
  | cons i rest ih =>
    rcases col.grant_cons_cases i rest with ⟨k, -, -, e⟩ | ⟨-, e⟩ <;> rw [e, ih]
    rfl

theorem Column.grant_of_no_freeLane {col : Column} (h : col.freeLane = none) (l : List SlotId) :
    col.grant l = col := by
  induction l with
  | nil => rfl
  | cons i rest ih =>
    rcases col.grant_cons_cases i rest with ⟨k, -, hk, -⟩ | ⟨-, e⟩
    · rw [h] at hk
      cases hk
    · rw [e, ih]

theorem Column.holds_grant {col : Column} {i : SlotId} (h : col.holds i = true) (l : List SlotId) :
    (col.grant l).holds i = true := by
  induction l generalizing col with
  | nil => exact h
  | cons j rest ih =>
    rcases col.grant_cons_cases j rest with ⟨k, -, hk, e⟩ | ⟨-, e⟩ <;> rw [e]
    · exact ih ((Column.give_holds (Column.freeLane_isNone hk) j i).mpr (.inr h))
    · exact ih h

/-- The grant step only takes candidates away: needs stay, and holders stay holders. -/
theorem Column.candidate_of_grant {col : Column} {c : SlotId} {l : List SlotId}
    (h : (col.grant l).candidate c = true) : col.candidate c = true := by
  simp only [Column.candidate, Column.grant_cells, Bool.and_eq_true, Bool.not_eq_true'] at h ⊢
  obtain ⟨needs, unheld⟩ := h
  exact ⟨needs, Bool.eq_false_iff.mpr fun held => by simp [Column.holds_grant held] at unheld⟩

theorem Column.not_candidate_of_holds {col : Column} {c : SlotId} (h : col.holds c = true) :
    col.candidate c = false := by
  rw [Column.candidate, h, Bool.not_true, Bool.and_false]

/-- A route granted a lane outranks every candidate left over: the lanes go in rank order, so one that
ranked above it would have been granted the lane first (R117). -/
theorem Column.not_candidate_above_granted {col : Column} {i c : SlotId} {l : List SlotId}
    (unheld : col.holds i = false) (granted : (col.grant l).holds i = true)
    (left : (col.grant l).candidate c = true) : ¬ l.idxOf c < l.idxOf i := by
  induction l generalizing col with
  | nil => exact Nat.lt_irrefl _
  | cons j rest ih =>
    by_cases hji : j = i
    · rw [hji, List.idxOf_cons_self]
      exact Nat.not_lt_zero _
    by_cases hjc : j = c
    · exfalso
      subst hjc
      have before : col.candidate j = true := Column.candidate_of_grant left
      rcases col.grant_cons_cases j rest with ⟨k, -, hk, e⟩ | ⟨none_free, -⟩
      · have held : (col.give k j).holds j = true :=
          (Column.give_holds (Column.freeLane_isNone hk) j j).mpr (.inl rfl)
        rw [e, Column.not_candidate_of_holds (Column.holds_grant held rest)] at left
        cases left
      · rw [Column.grant_of_no_freeLane (none_free before), unheld] at granted
        cases granted
    rw [List.idxOf_cons_ne _ hji, List.idxOf_cons_ne _ hjc, Nat.succ_lt_succ_iff]
    rcases col.grant_cons_cases j rest with ⟨k, -, hk, e⟩ | ⟨-, e⟩ <;> rw [e] at granted left
    · refine ih (Bool.eq_false_iff.mpr fun held => ?_) granted left
      rcases (Column.give_holds (Column.freeLane_isNone hk) j i).mp held with rfl | held
      · exact hji rfl
      · rw [unheld] at held
        cases held
    · exact ih unheld granted left

/-! ### Yield (R118) -/

theorem Column.markYielding_cell (col : Column) (j i : SlotId) :
    (col.markYielding j).cells[i] =
      if i = j then { col.cells[i] with yielding := true } else col.cells[i] := upd_get ..

theorem Column.yieldFor_lanes (ranked l : List SlotId) (col : Column) :
    (Column.yieldFor ranked col l).1.lanes = col.lanes := by
  fun_induction Column.yieldFor ranked col l with
  | case1 | case2 | case4 => rfl
  | case3 col cand rest holder _ _ t ih => exact ih

theorem Column.yieldFor_gains (ranked l : List SlotId) (col : Column) (i : SlotId) :
    ((Column.yieldFor ranked col l).1.cells[i]).gains = (col.cells[i]).gains := by
  fun_induction Column.yieldFor ranked col l with
  | case1 | case2 | case4 => rfl
  | case3 col cand rest holder _ _ t ih =>
    rw [ih, Column.markYielding_cell]
    split <;> rfl

/-- A holder that no uncovered candidate outranks is not marked. -/
theorem Column.yieldFor_cell_of_outranking {ranked l : List SlotId} {i : SlotId} (col : Column)
    (h : ∀ c ∈ l, ¬ ranked.idxOf c < ranked.idxOf i) :
    (Column.yieldFor ranked col l).1.cells[i] = col.cells[i] := by
  fun_induction Column.yieldFor ranked col l with
  | case1 | case2 | case4 => rfl
  | case3 col cand rest holder _ above t ih =>
    obtain ⟨hcand, hrest⟩ := List.forall_mem_cons.mp h
    have other : i ≠ holder := by
      rintro rfl
      exact hcand above
    rw [ih hrest, Column.markYielding_cell, if_neg other]

theorem Column.yield_lanes (col : Column) (ranked : List SlotId) : (col.yield ranked).1.lanes = col.lanes :=
  Column.yieldFor_lanes ranked _ col

theorem Column.yield_gains (col : Column) (ranked : List SlotId) (i : SlotId) :
    ((col.yield ranked).1.cells[i]).gains = (col.cells[i]).gains := Column.yieldFor_gains ranked _ col i

theorem Column.yield_cell_of_outranking {col : Column} {ranked : List SlotId} {i : SlotId}
    (h : ∀ c, col.candidate c = true → ¬ ranked.idxOf c < ranked.idxOf i) :
    (col.yield ranked).1.cells[i] = col.cells[i] :=
  Column.yieldFor_cell_of_outranking col fun c hc =>
    h c (List.mem_filter.mp (List.mem_of_mem_drop hc)).2

/-! ### The whole of a speaker's arbitration (R115) -/

theorem Column.markWaiting_cell (col : Column) (i : SlotId) :
    col.markWaiting.cells[i] = { col.cells[i] with waiting := col.candidate i } := ofFn_get _ i

theorem Column.markWaiting_holds (col : Column) : col.markWaiting.holds = col.holds :=
  Column.holds_congr (by rw [Column.markWaiting])

theorem Column.arbitrate_column (col : Column) (ranked : List SlotId) :
    (col.arbitrate ranked).column = ((col.release.grant ranked).yield ranked).1.markWaiting := rfl

theorem Column.arbitrate_gains (col : Column) (ranked : List SlotId) (i : SlotId) :
    ((col.arbitrate ranked).column.cells[i]).gains = (col.cells[i]).gains := by
  calc ((col.arbitrate ranked).column.cells[i]).gains
      = (((col.release.grant ranked).yield ranked).1.cells[i]).gains := by
        rw [Column.arbitrate_column, Column.markWaiting_cell]
        rfl
    _ = (col.cells[i]).gains := by
        rw [Column.yield_gains, Column.grant_cells, Column.release_gains]

theorem Column.arbitrate_holds (col : Column) (ranked : List SlotId) :
    (col.arbitrate ranked).column.holds = (col.release.grant ranked).holds := by
  rw [Column.arbitrate_column, Column.markWaiting_holds, Column.holds_congr (Column.yield_lanes _ ranked)]

/-- A cell granted a lane keeps the yielding mark that the release step left it: no candidate left over
outranks it. -/
theorem Column.arbitrate_yielding_of_granted {col : Column} {ranked : List SlotId} {i : SlotId}
    (unheld : col.release.holds i = false) (granted : (col.arbitrate ranked).column.holds i = true) :
    ((col.arbitrate ranked).column.cells[i]).yielding = (col.release.cells[i]).yielding := by
  rw [Column.arbitrate_holds] at granted
  rw [Column.arbitrate_column, Column.markWaiting_cell, Column.yield_cell_of_outranking
    fun _ left => Column.not_candidate_above_granted unheld granted left, Column.grant_cells]

/-- A cell that had no lane, or gives up its lane in this arbitration, and holds one after it is not marked
yielding. -/
theorem Column.arbitrate_unmarked_of_granted {col : Column} {ranked : List SlotId} {i : SlotId}
    (marked_holds : (col.cells[i]).yielding = true → col.holds i = true)
    (granted : (col.arbitrate ranked).column.holds i = true)
    (lost : col.holds i = false ∨ (col.cells[i]).applied = -480 ∧ (col.cells[i]).yielding = true) :
    ((col.arbitrate ranked).column.cells[i]).yielding = false := by
  have unheld : col.release.holds i = false := by
    rw [Column.release_holds]
    rcases lost with unheld | ⟨silent, marked⟩
    · rw [unheld, Bool.false_and]
    · rw [Cell.releases_of_yielding silent marked, Bool.not_true, Bool.and_false]
  rw [Column.arbitrate_yielding_of_granted unheld granted]
  exact Column.release_yielding_of_unheld marked_holds unheld

end Sys2Proof.Machine
end

section
/-! PROOF. The ramp step of a pass (R97, R102): what each stage of a pass leaves in a cell, the step itself by
its cases, the start of a granted cell, and the obligation from them. -/
namespace Sys2Proof.Machine

/-- The gain that a cell's ramp step starts from: a speaker not NORMAL silences its cells directly (R97). -/
def State.rampStart (s : State) (sp : SpeakerId) (i : SlotId) : Int :=
  if (s.prot.speakers[sp]).state ≠ .normal then -480 else ((s.grid[sp]).cells[i]).applied

/-! ### Targets and direct silencing -/

theorem State.targetCell_applied (s : State) (sp : SpeakerId) (i : SlotId) (c : Cell) :
    (s.targetCell sp i c).applied =
      if (s.prot.speakers[sp]).state ≠ .normal then -480 else c.applied := by
  rw [State.targetCell]
  split
  · rfl
  · cases s.routeAt i <;> rfl

theorem State.targetCell_yielding (s : State) (sp : SpeakerId) (i : SlotId) (c : Cell) :
    (s.targetCell sp i c).yielding = c.yielding := by
  rw [State.targetCell]
  split
  · rfl
  · cases s.routeAt i <;> rfl

theorem State.targetColumn_cell (s : State) (sp : SpeakerId) (col : Column) (i : SlotId) :
    (s.targetColumn sp col).cells[i] = s.targetCell sp i col.cells[i] := ofFn_get _ i

theorem State.targetColumn_yielding (s : State) (sp : SpeakerId) (col : Column) (i : SlotId) :
    ((s.targetColumn sp col).cells[i]).yielding = (col.cells[i]).yielding := by
  rw [State.targetColumn_cell, State.targetCell_yielding]

theorem State.targetColumn_holds (s : State) (sp : SpeakerId) (col : Column) :
    (s.targetColumn sp col).holds = col.holds := Column.holds_congr (by rw [State.targetColumn])

theorem State.targeted_applied (s : State) (sp : SpeakerId) (i : SlotId) :
    ((s.spilled.targetColumn sp s.grid[sp]).cells[i]).applied = s.rampStart sp i := by
  rw [State.targetColumn_cell, State.targetCell_applied]
  rfl

/-! ### Arbitration in a pass -/

theorem State.passArbitrated_present {s : State} {sp : SpeakerId}
    (h : (s.cabin.speakers[sp]).present = true) :
    s.passArbitrated sp = (s.spilled.targetColumn sp s.grid[sp]).arbitrate s.table.ranked := if_pos h

theorem State.passArbitrated_absent {s : State} {sp : SpeakerId}
    (h : (s.cabin.speakers[sp]).present = false) :
    (s.passArbitrated sp).column = s.spilled.targetColumn sp s.grid[sp] := by
  rw [State.passArbitrated, if_neg (Bool.eq_false_iff.mp h)]

theorem State.passArbitrated_gains (s : State) (sp : SpeakerId) (i : SlotId) :
    ((s.passArbitrated sp).column.cells[i]).gains =
      ((s.spilled.targetColumn sp s.grid[sp]).cells[i]).gains := by
  cases hp : (s.cabin.speakers[sp]).present with
  | true => rw [State.passArbitrated_present hp, Column.arbitrate_gains]
  | false => rw [State.passArbitrated_absent hp]

theorem State.passArbitrated_applied (s : State) (sp : SpeakerId) (i : SlotId) :
    ((s.passArbitrated sp).column.cells[i]).applied = s.rampStart sp i := by
  rw [(Cell.gains_eq_iff.mp (s.passArbitrated_gains sp i)).2, State.targeted_applied]

/-! ### The ramp step -/

section
variable (ramps : Vector RampProfile 8) {r : Route} (c : Cell)

theorem rampCell_target (holds : Bool) : (rampCell ramps r holds c).target = c.target := by
  unfold rampCell
  split_ifs <;> rfl

theorem rampCell_yielding (holds : Bool) : (rampCell ramps r holds c).yielding = c.yielding := by
  unfold rampCell
  split_ifs <;> rfl

theorem rampCell_unheld : (rampCell ramps r false c).applied = -480 := rfl

variable {c}

/-- A holder that is giving way, or cut off, falls 48 steps whatever its profile and target (R102). -/
theorem rampCell_falling (h : c.yielding = true ∨ r.state = .closing ∧ r.cause = some .cut) :
    (rampCell ramps r true c).applied = max (c.applied - 48) (-480) := by
  cases marked : c.yielding with
  | true => simp [rampCell, marked]
  | false =>
    have cut := h.resolve_left (by simp [marked])
    simp [rampCell, marked, cut]

/-- Any other holder moves by its profile's rates, never past its target (R102). -/
theorem rampCell_toward (marked : c.yielding = false) (cut : ¬(r.state = .closing ∧ r.cause = some .cut)) :
    (c.applied < c.target →
      (rampCell ramps r true c).applied = min (c.applied + (ramps[r.ramp]).rise) c.target)
    ∧ (c.target < c.applied →
      (rampCell ramps r true c).applied = max (c.applied - (ramps[r.ramp]).fall) c.target)
    ∧ (c.applied = c.target → (rampCell ramps r true c).applied = c.applied) := by
  have step : rampCell ramps r true c =
      if c.applied < c.target then
        { c with applied := min (c.applied + (ramps[r.ramp]).rise) c.target }
      else if c.target < c.applied then
        { c with applied := max (c.applied - (ramps[r.ramp]).fall) c.target }
      else c := by
    rw [rampCell, marked, if_neg cut]
    rfl
  rw [step]
  refine ⟨fun below => ?_, fun above => ?_, fun level => ?_⟩
  · rw [if_pos below]
  · rw [if_neg (Int.lt_asymm above), if_pos above]
  · rw [if_neg (level ▸ Int.lt_irrefl _), if_neg (level ▸ Int.lt_irrefl _)]

end

theorem State.rampColumn_holds (s : State) (col : Column) : (s.rampColumn col).holds = col.holds :=
  Column.holds_congr (by rw [State.rampColumn])

theorem State.rampColumn_cell {s : State} {i : SlotId} {r : Route} (hr : s.routeAt i = some r)
    (col : Column) : (s.rampColumn col).cells[i] = rampCell s.ramps r (col.holds i) col.cells[i] := by
  have cell : (s.rampColumn col).cells[i] = match s.routeAt i with
      | some r => rampCell s.ramps r (col.holds i) col.cells[i]
      | none => col.cells[i] := ofFn_get _ i
  rw [cell, hr]

theorem exec_pass_column {s t : State} (released : s.pins.rstAsserted = false)
    (taken : s.table.report = none) (h : exec .pass s = .next t) (sp : SpeakerId) :
    t.grid[sp] = s.rampColumn (s.passArbitrated sp).column := by
  have next : exec .pass s = .next s.stages := by
    have e : exec .pass s = execPass s := rfl
    have none_taken : s.takeReport = s := by rw [State.takeReport, taken]
    rw [e, execPass, released, none_taken]
    rfl
  obtain rfl : s.stages = t := Host.Outcome.next.inj (next.symm.trans h)
  have grid : s.stages.grid = s.passGrid := by
    obtain ⟨_, _, _, e, -⟩ := s.stages_law
    rw [e]
  rw [grid, State.passGrid, ofFn_get]

/-! ### The start of a granted cell -/

/-- A cell that had no lane, or gave up its lane in this pass, and holds one after arbitration starts
from -480 and is not marked yielding. -/
theorem State.granted_starts_silent {s : State} {sp : SpeakerId} {i : SlotId} (grid : GridInv s)
    (granted : (s.passArbitrated sp).column.holds i = true)
    (lost : (s.grid[sp]).holds i = false
      ∨ s.rampStart sp i = -480 ∧ ((s.grid[sp]).cells[i]).yielding = true) :
    s.rampStart sp i = -480 ∧ ((s.passArbitrated sp).column.cells[i]).yielding = false := by
  obtain ⟨cells, -, -, -, absent_silent⟩ := grid
  obtain ⟨-, -, -, -, unheld_silent, marked_holds, -⟩ := cells sp i
  have start : s.rampStart sp i = -480 := by
    rcases lost with unheld | ⟨silent, -⟩
    · rw [State.rampStart, unheld_silent unheld, ite_self]
    · exact silent
  refine ⟨start, ?_⟩
  cases hp : (s.cabin.speakers[sp]).present with
  | false =>
    obtain ⟨-, unheld⟩ := absent_silent sp hp i
    rw [State.passArbitrated_absent hp, State.targetColumn_holds, unheld] at granted
    cases granted
  | true =>
    rw [State.passArbitrated_present hp] at granted ⊢
    rw [← s.targeted_applied sp i] at lost
    rw [← State.targetColumn_yielding s.spilled] at marked_holds lost
    rw [← State.targetColumn_holds s.spilled sp] at marked_holds lost
    exact Column.arbitrate_unmarked_of_granted marked_holds granted lost

/-- Settles O39: the ramp step on the cell that arbitration leaves, whose gain is the one the cell had, or
-480 at a speaker not NORMAL. -/
theorem passRampsEveryCellOneStep : Obligations.PassRampsEveryCellOneStep := by
  intro s t i r sp released taken hexec hr a cell
  obtain ⟨arb, harb⟩ : ∃ arb, arb = (s.passArbitrated sp).column := ⟨_, rfl⟩
  have column : t.grid[sp] = s.rampColumn arb := harb ▸ exec_pass_column released taken hexec sp
  have ramped : cell = rampCell s.ramps r (arb.holds i) arb.cells[i] := by
    simp only [cell, column, State.rampColumn_cell hr]
  have start : a = (arb.cells[i]).applied := harb ▸ (s.passArbitrated_applied sp i).symm
  have target : cell.target = (arb.cells[i]).target := by rw [ramped, rampCell_target]
  have yielding : cell.yielding = (arb.cells[i]).yielding := by rw [ramped, rampCell_yielding]
  rw [column, State.rampColumn_holds, yielding, target]
  refine ⟨fun unheld => ?_, fun held marked => ?_, fun held _ closing cut => ?_, fun held marked cut => ?_,
    fun _ grid granted lost => ?_⟩
  · rw [ramped, unheld, rampCell_unheld]
  · rw [ramped, held, start, rampCell_falling _ (.inl marked)]
  · rw [ramped, held, start, rampCell_falling _ (.inr ⟨closing, cut⟩)]
  · rw [ramped, held, start]
    exact rampCell_toward _ marked cut
  · subst harb
    exact s.granted_starts_silent grid granted lost

end Sys2Proof.Machine
end

section
/-! PROOF. The linear gain (R131): lin once over m and k for whole and for rounded values, then one quotient
over a fixed power of two for all of -479 and above, from which its monotonicity is the table's. -/
namespace Sys2Proof.Machine

/-- R131's rule over the k and m of a gain. -/
theorem lin_eq_of_steps {q m : Int} {k : Fin 24} (audible : q ≠ -480) (hq : q = 24 * m - k.val) :
    lin q = if 0 ≤ m then linTable[k] * 2 ^ m.toNat
      else (linTable[k] + 2 ^ ((-m).toNat - 1)) / 2 ^ (-m).toNat := by
  have hk := k.isLt
  have index : linIndex q = k := Fin.ext (show ((-q) % 24).toNat = k.val by omega)
  have octave : (q + (-q) % 24) / 24 = m := by omega
  simp only [lin, if_neg audible, index, octave]

theorem lin_whole {q m : Int} {k : Fin 24} (audible : q ≠ -480) (hq : q = 24 * m - k.val) (hm : 0 ≤ m) :
    lin q = linTable[k] * 2 ^ m.toNat := by
  rw [lin_eq_of_steps audible hq, if_pos hm]

theorem lin_rounded {q m : Int} {k : Fin 24} (audible : q ≠ -480) (hq : q = 24 * m - k.val) (hm : m < 0) :
    lin q = (linTable[k] + 2 ^ ((-m).toNat - 1)) / 2 ^ (-m).toNat := by
  rw [lin_eq_of_steps audible hq, if_neg (not_le.mpr hm)]

theorem lin_silent : lin (-480) = 0 := rfl

theorem lin_quietest : lin (-479) = 8 := by decide

theorem lin_loudest : lin 48 = 33554432 := by decide

/-- Entry k lies within half of 2^23 * 2^(-k/24), both sides raised to the 24th power. -/
theorem linTable_nearest : ∀ k : Fin 24,
    (2 * linTable[k] - 1) ^ 24 ≤ 2 ^ (576 - k.val)
      ∧ (2 : Int) ^ (576 - k.val) < (2 * linTable[k] + 1) ^ 24 := by
  decide +kernel

theorem linTable_falls : ∀ k : Fin 23, linTable[k.succ] ≤ linTable[k.castSucc] := by decide

theorem linTable_first_le_twice_last : linTable[(0 : Fin 24)] ≤ linTable[(23 : Fin 24)] * 2 := by decide

/-- Both cases of R131's rule are one quotient over 2^19, for m + 19 = n is never negative above -480. -/
theorem lin_eq_quotient (n : Nat) (k : Fin 24) :
    lin (24 * (n - 19) - k.val) = (linTable[k] * 2 ^ n + 2 ^ 18) / 2 ^ 19 := by
  have hk := k.isLt
  have audible : 24 * ((n : Int) - 19) - k.val ≠ -480 := by omega
  rcases Nat.lt_or_ge n 19 with low | high
  · obtain ⟨d, hd⟩ : ∃ d, 18 = d + n := ⟨18 - n, by omega⟩
    have exponent : (-((n : Int) - 19)).toNat = d + 1 := by omega
    rw [lin_rounded audible rfl (by omega), exponent, Nat.add_sub_cancel, show 19 = d + 1 + n by omega, hd,
      pow_add _ (d + 1), pow_add _ d n, ← add_mul, Int.mul_ediv_mul_of_pos_left _ _ (by positivity)]
  · obtain ⟨d, rfl⟩ := Nat.exists_eq_add_of_le' high
    have exponent : (((d + 19 : Nat) : Int) - 19).toNat = d := by omega
    rw [lin_whole audible rfl (by omega), exponent, pow_add, ← mul_assoc]
    omega

theorem exists_steps {q : Int} (h : -480 < q) : ∃ (n : Nat) (k : Fin 24), q = 24 * (n - 19) - k.val :=
  ⟨((q + (-q) % 24) / 24 + 19).toNat, linIndex q, by simp only [linIndex]; omega⟩

theorem lin_le_lin_of_scaled {n n' : Nat} {k k' : Fin 24}
    (h : linTable[k] * 2 ^ n ≤ linTable[k'] * 2 ^ n') :
    lin (24 * (n - 19) - k.val) ≤ lin (24 * (n' - 19) - k'.val) := by
  rw [lin_eq_quotient, lin_eq_quotient]
  exact Int.ediv_le_ediv (by decide) (Int.add_le_add_right h _)

/-- One step up is the table's entry before, or from the first entry of a doubling the last of the next. -/
theorem lin_le_lin_add_one {q : Int} (h : -480 ≤ q) : lin q ≤ lin (q + 1) := by
  rcases h.eq_or_lt with rfl | audible
  · decide
  obtain ⟨n, k, rfl⟩ := exists_steps audible
  cases k using Fin.cases with
  | zero =>
    have next : 24 * ((n : Int) - 19) - (0 : Fin 24).val + 1
        = 24 * ((n + 1 : Nat) - 19) - (23 : Fin 24).val := by
      simp only [Fin.val_zero]
      omega
    rw [next]
    apply lin_le_lin_of_scaled
    rw [pow_succ', ← mul_assoc]
    exact mul_le_mul_of_nonneg_right linTable_first_le_twice_last (by positivity)
  | succ k =>
    have next : 24 * ((n : Int) - 19) - k.succ.val + 1 = 24 * (n - 19) - k.castSucc.val := by
      simp only [Fin.val_succ, Fin.val_castSucc]
      omega
    rw [next]
    exact lin_le_lin_of_scaled (mul_le_mul_of_nonneg_right (linTable_falls k) (by positivity))

theorem lin_monotoneOn : MonotoneOn lin (Set.Ici (-480)) :=
  monotoneOn_of_le_add_one Set.ordConnected_Ici fun _ _ h _ => lin_le_lin_add_one h

/-- Settles O42: the range is monotonicity between the two ends, -480 and 48. -/
theorem linearGainFollowsTheTable : Obligations.LinearGainFollowsTheTable := by
  refine ⟨linTable_nearest, lin_silent, lin_quietest, fun q m k audible _ hq => ⟨?whole, fun hm => ?rounded⟩,
    fun q q' low le high => ?monotone⟩
  case whole => exact lin_whole audible.ne' hq
  case rounded =>
    have divisor : (0 : Int) < 2 ^ (-m).toNat := by positivity
    rw [lin_rounded audible.ne' hq hm]
    exact ⟨Int.ediv_mul_le _ divisor.ne', Int.lt_ediv_add_one_mul_self _ divisor⟩
  case monotone =>
    have low' : -480 ≤ q' := low.trans le
    refine ⟨?_, lin_monotoneOn low low' le, ?_⟩
    · exact lin_silent ▸ lin_monotoneOn Set.self_mem_Ici low low
    · exact lin_loudest ▸ lin_monotoneOn low' (low'.trans high) high

end Sys2Proof.Machine
end

section
/-! SUPPORT. What the Route Table's events leave: forced closing, the pass report as one change, and the two
ways in which LEAVING ends (R28, R29, R31, R43, R44). -/
namespace Sys2Proof.Machine

/-- A slot's route under forced closing (R43). -/
def Route.forced (r : Route) : Route := if r.state = .closing then r else r.closing .forced

/-- Forced closing: every route is forced, its slot's generation kept, and FORCED is raised for the routes
that were not CLOSING; nothing else changes (R43). -/
theorem State.forceAll_law (s : State) :
    ∃ slots ns,
      s.forceAll =
        { s with table := { s.table with slots := slots }, link := { s.link with notices := ns } }
      ∧ (∀ i : SlotId, (slots[i]).gen = (s.table.slots[i]).gen
        ∧ (slots[i]).route = (s.routeAt i).map Route.forced)
      ∧ Raised s .forced
          (s.ownedBy (s.table.order.filter fun i =>
            (s.routeAt i).any fun r => decide (r.state ≠ .closing)))
          s.link.notices ns := by
  obtain ⟨slots, hslots⟩ : ∃ slots : Vector Slot 32, slots = Vector.ofFn fun i : SlotId =>
      match (s.table.slots[i]).route with
      | some r => if r.state = .closing then s.table.slots[i]
          else { s.table.slots[i] with route := some (r.closing .forced) }
      | none => s.table.slots[i] := ⟨_, rfl⟩
  have entry (i : SlotId) : (slots[i]).gen = (s.table.slots[i]).gen
      ∧ (slots[i]).route = (s.routeAt i).map Route.forced := by
    rw [hslots, ofFn_get, State.routeAt]
    cases hr : (s.table.slots[i]).route with
    | none => exact ⟨rfl, hr⟩
    | some r =>
      simp only [Option.map_some, Route.forced]
      split
      · exact ⟨rfl, hr⟩
      · exact ⟨rfl, rfl⟩
  obtain ⟨l, hl⟩ : ∃ l : List SlotId, l = s.table.order.filter fun i =>
      (s.routeAt i).any fun r => decide (r.state ≠ .closing) := ⟨_, rfl⟩
  have forced : s.forceAll = ({ s with table := { s.table with slots := slots } } : State).raiseFor
      .forced l := by
    rw [State.forceAll, hl, hslots]
    congr 2
    funext i
    cases s.routeAt i <;> rfl
  obtain ⟨ns, e, -⟩ := State.raiseFor_frame .forced l { s with table := { s.table with slots := slots } }
  have raised := State.raiseFor_raised .forced l { s with table := { s.table with slots := slots } }
  rw [e] at forced raised
  refine ⟨slots, ns, forced, entry, ?_⟩
  rw [← hl]
  have owned : State.ownedBy { s with table := { s.table with slots := slots } } l = s.ownedBy l := by
    funext lane
    refine List.filter_congr fun i _ => ?_
    have route : State.routeAt { s with table := { s.table with slots := slots } } i
        = (s.routeAt i).map Route.forced := (entry i).2
    rw [route]
    cases s.routeAt i with
    | none => rfl
    | some r =>
      simp only [Option.map_some, Option.any_some, Route.forced]
      split <;> rfl
  have handle : State.handleAt { s with table := { s.table with slots := slots } } = s.handleAt := by
    funext i
    rw [State.handleAt, State.handleAt, (entry i).1]
  rw [owned] at raised
  intro lane
  obtain ⟨kinds, latest⟩ := raised lane
  rw [handle] at latest
  exact ⟨kinds, latest⟩

/-- The mode and the HOST cause where LEAVING may end: as they were, or SETUP without it when LEAVING finds
no route in these slots (R44, R171). -/
def LeavingMayEnd (c : ModeControl) (slots : Vector Slot 32) (mode : Mode) (host : Bool) : Prop :=
  mode = c.mode ∧ host = c.host
  ∨ c.mode = .leaving ∧ mode = .setup ∧ host = false ∧ ∀ i : SlotId, (slots[i]).route = none

theorem State.leaveIfEmpty_frame (s : State) :
    ∃ mode host notices,
      s.leaveIfEmpty =
        { s with
          ctl := { s.ctl with mode := mode, host := host }, link := { s.link with notices := notices } }
      ∧ LeavingMayEnd s.ctl s.table.slots mode host := by
  rcases s.leaveIfEmpty_cases with ⟨mode, empty, e⟩ | ⟨-, e⟩
  · exact ⟨_, _, _, e, .inr ⟨mode, rfl, rfl, empty⟩⟩
  · exact ⟨s.ctl.mode, s.ctl.host, s.link.notices, e, .inl ⟨rfl, rfl⟩⟩

/-- A handle good for CLOSING is as good after routes were settled, for settling makes LIVE routes (R29). -/
theorem State.stillIn_closing_settled {s t : State} {l : List Handle}
    (gen : ∀ i : SlotId, (t.table.slots[i]).gen = (s.table.slots[i]).gen)
    (route : ∀ i : SlotId, t.routeAt i =
      if ∃ h ∈ l, h.slot = i ∧ s.stillIn h .opening = true then
        (s.routeAt i).map fun r => { r with state := .live }
      else s.routeAt i) (h : Handle) :
    t.stillIn h .closing = s.stillIn h .closing := by
  rw [Bool.eq_iff_iff, State.stillIn_iff, State.stillIn_iff]
  have handle : t.handleAt h.slot = s.handleAt h.slot := by rw [State.handleAt, State.handleAt, gen]
  rw [handle, route]
  refine exists_congr fun r => ?_
  by_cases settled : ∃ h' ∈ l, h'.slot = h.slot ∧ s.stillIn h' .opening = true
  · rw [if_pos settled]
    obtain ⟨h', -, hslot, still⟩ := settled
    obtain ⟨r', hr', -, -, opening⟩ := (State.stillIn_iff _ _ _).mp still
    rw [hslot] at hr'
    rw [hr']
    constructor
    · rintro ⟨e, -, -, closing⟩
      cases e
      cases closing
    · rintro ⟨e, -, -, closing⟩
      cases e
      rw [opening] at closing
      cases closing
  · rw [if_neg settled]

/-- Taking a report: OPENING routes it names settled become LIVE, CLOSING routes it names silent are freed
with their list places and spill flags, FREED raised in opening order, and then LEAVING may end (R28, R29,
R31, R44). -/
theorem State.takeReport_law {s : State} {rep : PassReport} (hrep : s.table.report = some rep) :
    ∃ slots spill ns,
      s.takeReport = State.leaveIfEmpty
        { s with
          table := { s.table with
            slots := slots, order := s.table.order.filter fun i => decide (i ∉ s.silentSlots rep.silent)
            report := none }
          prec := { s.prec with spill := spill }
          link := { s.link with notices := ns } }
      ∧ (∀ i : SlotId, (slots[i]).gen = (s.table.slots[i]).gen
        ∧ (slots[i]).route =
          (if i ∈ s.silentSlots rep.silent then none
          else if ∃ h ∈ rep.settled, h.slot = i ∧ s.stillIn h .opening = true then
            (s.routeAt i).map fun r => { r with state := .live }
          else s.routeAt i)
        ∧ spill[i] = (if i ∈ s.silentSlots rep.silent then false else s.prec.spill[i]))
      ∧ (s.table.order.Nodup →
          Raised s .freed (s.ownedBy (s.silentSlots rep.silent)) s.link.notices ns) := by
  obtain ⟨slots, settled, hslots⟩ := State.settle_law rep.settled
    { s with table := { s.table with report := none } }
  obtain ⟨t, ht⟩ : ∃ t, t = { s with table := { s.table with slots := slots, report := none } } := ⟨_, rfl⟩
  have tgen (i : SlotId) : (t.table.slots[i]).gen = (s.table.slots[i]).gen := by
    rw [ht]
    exact (hslots i).1
  have troute (i : SlotId) : t.routeAt i =
      if ∃ h ∈ rep.settled, h.slot = i ∧ s.stillIn h .opening = true then
        (s.routeAt i).map fun r => { r with state := .live }
      else s.routeAt i := by
    rw [ht]
    exact (hslots i).2
  have torder : t.table.order = s.table.order := by rw [ht]
  have silent : t.silentSlots rep.silent = s.silentSlots rep.silent := by
    simp only [State.silentSlots, torder, State.stillIn_closing_settled tgen troute]
  have owned (l : List SlotId) : t.ownedBy l = s.ownedBy l := by
    funext lane
    refine List.filter_congr fun i _ => ?_
    rw [troute]
    split
    · cases s.routeAt i <;> rfl
    · rfl
  have handle : t.handleAt = s.handleAt := by
    funext i
    rw [State.handleAt, State.handleAt, tgen]
  obtain ⟨slots', spill, ns, freed, -, hfreed, raised⟩ := t.freeAll_law (s.silentSlots rep.silent)
  refine ⟨slots', spill, ns, ?_, fun i => ⟨?_, ?_, ?_⟩, fun nodup => ?_⟩
  · have taken : s.takeReport = (t.freeAll (t.silentSlots rep.silent)).leaveIfEmpty := by
      rw [State.takeReport, hrep]
      dsimp only
      rw [settled, ht]
    rw [taken, silent, freed, ht]
  · rw [(hfreed i).1, tgen]
  · rw [(hfreed i).2.1, troute]
  · rw [(hfreed i).2.2, ht]
  · have h := raised (nodup.filter _)
    rw [owned] at h
    intro lane
    obtain ⟨kinds, latest⟩ := h lane
    have link : t.link = s.link := by rw [ht]
    rw [link] at kinds latest
    rw [handle] at latest
    exact ⟨kinds, latest⟩

theorem State.takeReport_none {s : State} (h : s.table.report = none) : s.takeReport = s := by
  rw [State.takeReport, h]

/-- What taking a report leaves alone, whatever it names. -/
theorem State.takeReport_frame (s : State) :
    ∃ mode host slots order spill notices,
      s.takeReport =
        { s with
          ctl := { s.ctl with mode := mode, host := host }
          table := { s.table with slots := slots, order := order, report := none }
          prec := { s.prec with spill := spill }
          link := { s.link with notices := notices } }
      ∧ LeavingMayEnd s.ctl slots mode host := by
  cases hrep : s.table.report with
  | none =>
    have same : { s.table with slots := s.table.slots, order := s.table.order, report := none } = s.table := by
      rw [← hrep]
    rw [State.takeReport_none hrep]
    exact ⟨s.ctl.mode, s.ctl.host, s.table.slots, s.table.order, s.prec.spill, s.link.notices, by rw [same],
      .inl ⟨rfl, rfl⟩⟩
  | some rep =>
    obtain ⟨slots, spill, ns, e, -, -⟩ := State.takeReport_law hrep
    obtain ⟨mode, host, notices, e', ends⟩ := State.leaveIfEmpty_frame _
    rw [e, e']
    exact ⟨mode, host, slots, _, spill, notices, rfl, ends⟩

/-- What a pass leaves alone. -/
theorem State.pass_frame (s : State) :
    ∃ mode host slots order report spill free grid lanes notices,
      s.takeReport.stages =
        { s with
          free := free
          ctl := { s.ctl with mode := mode, host := host }
          table := { s.table with slots := slots, order := order, report := report }
          prec := { s.prec with spill := spill }
          grid := grid
          mixer := { s.mixer with lanes := lanes }
          link := { s.link with notices := notices } }
      ∧ LeavingMayEnd s.ctl slots mode host := by
  obtain ⟨mode, host, slots, order, spill, _, taken, ends⟩ := s.takeReport_frame
  obtain ⟨_, notices, free, passed, -⟩ := s.takeReport.stages_law
  rw [passed, taken]
  exact ⟨mode, host, slots, order, _, _, free, _, _, notices, rfl, ends⟩

/-- What SET_MODE SETUP in RUN leaves alone: LEAVING, or SETUP at once where no route is left (R170). -/
theorem State.leave_frame (s : State) :
    ∃ mode host slots notices,
      ({ s with ctl := { s.ctl with mode := .leaving } } : State).forceAll.leaveIfEmpty =
        { s with
          ctl := { s.ctl with mode := mode, host := host }
          table := { s.table with slots := slots }
          link := { s.link with notices := notices } }
      ∧ LeavingMayEnd { s.ctl with mode := .leaving } slots mode host := by
  obtain ⟨slots, _, forced, -, -⟩ := State.forceAll_law { s with ctl := { s.ctl with mode := .leaving } }
  obtain ⟨mode, host, notices, left, ends⟩ := State.leaveIfEmpty_frame
    ({ s with ctl := { s.ctl with mode := .leaving } } : State).forceAll
  rw [left, forced]
  rw [forced] at ends
  exact ⟨mode, host, slots, notices, rfl, ends⟩

end Sys2Proof.Machine
end

section
/-! SUPPORT. What the frame event, overload events and the small events of the other blocks leave alone. -/
namespace Sys2Proof.Machine

/-- The speakers' sections differ in their state values alone. -/
def StatesOnly (a b : Vector SpeakerEq 24) : Prop :=
  ∀ sp : SpeakerId, b[sp] = { a[sp] with state := (b[sp]).state }

theorem StatesOnly.refl (a : Vector SpeakerEq 24) : StatesOnly a a := fun _ => rfl

theorem StatesOnly.trans {a b c : Vector SpeakerEq 24} (h : StatesOnly a b) (h' : StatesOnly b c) :
    StatesOnly a c := fun sp => by rw [h' sp, h sp]

theorem StatesOnly.ofFn (a : Vector SpeakerEq 24) (f : SpeakerId → Vector SectionState 6) :
    StatesOnly a (Vector.ofFn fun sp => { a[sp] with state := f sp }) := fun sp => by rw [ofFn_get]

theorem StatesOnly.upd (a : Vector SpeakerEq 24) (sp : SpeakerId) (states : Vector SectionState 6) :
    StatesOnly a (upd a sp fun e => { e with state := states }) := fun other => by
  rw [upd_get]
  split <;> rfl

/-- A change such as frames and overload events make: of the Mixer, the sections' states, the protection of
the speakers and the notice sets. -/
def FrameOnly (s t : State) : Prop :=
  ∃ clock inFrame lanes gates held speakers prot summary notices,
    t = { s with
      mixer := { s.mixer with
        clock := clock, inFrame := inFrame, lanes := lanes, gates := gates, held := held }
      eq := { s.eq with speakers := speakers }
      prot := { s.prot with speakers := prot, summary := summary }
      link := { s.link with notices := notices } }
    ∧ StatesOnly s.eq.speakers speakers

theorem FrameOnly.refl (s : State) : FrameOnly s s :=
  ⟨_, _, _, _, _, _, _, _, _, rfl, StatesOnly.refl _⟩

theorem FrameOnly.trans {a b c : State} (h : FrameOnly a b) (h' : FrameOnly b c) : FrameOnly a c := by
  obtain ⟨_, _, _, _, _, _, _, _, _, rfl, same⟩ := h
  obtain ⟨_, _, _, _, _, _, _, _, _, rfl, same'⟩ := h'
  exact ⟨_, _, _, _, _, _, _, _, _, rfl, same.trans same'⟩

theorem State.setProt_frameOnly (s : State) (sp : SpeakerId) (f : SpeakerProt → SpeakerProt) :
    FrameOnly s (s.setProt sp f) := ⟨_, _, _, _, _, _, _, _, _, rfl, StatesOnly.refl _⟩

theorem State.closeGate_frameOnly (s : State) (sp : SpeakerId) : FrameOnly s (s.closeGate sp) :=
  ⟨_, _, _, _, _, _, _, _, _, rfl, StatesOnly.upd _ sp _⟩

theorem State.reportTrip_frameOnly (s : State) : FrameOnly s s.reportTrip :=
  ⟨_, _, _, _, _, _, _, _, _, rfl, StatesOnly.refl _⟩

theorem State.overload_frameOnly (s : State) (sp : SpeakerId) : FrameOnly s (s.overload sp) := by
  have closes (t : State) : FrameOnly t (t.closeGate sp).reportTrip :=
    (t.closeGate_frameOnly sp).trans (State.reportTrip_frameOnly _)
  unfold State.overload
  split
  · exact FrameOnly.refl s
  · exact ⟨_, _, _, _, _, _, _, _, _, rfl, StatesOnly.refl _⟩
  all_goals exact (s.setProt_frameOnly sp _).trans (closes _)

theorem State.overloadAll_frameOnly (l : List SpeakerId) (s : State) : FrameOnly s (s.overloadAll l) := by
  induction l generalizing s with
  | nil => exact FrameOnly.refl s
  | cons sp rest ih => exact (s.overload_frameOnly sp).trans (ih _)

theorem State.returnOfFrames_frameOnly (s : State) : FrameOnly s s.returnOfFrames := by
  unfold State.returnOfFrames
  dsimp only
  split
  · exact ⟨_, _, _, _, _, _, _, _, _, rfl, StatesOnly.ofFn _ _⟩
  · exact ⟨_, _, _, _, _, _, _, _, _, rfl, StatesOnly.ofFn _ _⟩

/-- The state in which a frame's glides move: at the return of frames, after it (R130). -/
def State.backForFrame (s : State) : State := if s.mixer.clock = .lost then s.returnOfFrames else s

/-- The state in which a frame's outputs have been formed and nothing has been counted yet. -/
def State.madeFrame (s : State) (samples : Vector Sample 16) : State :=
  s.backForFrame.advanceGlides.produceFrame samples

/-- The state after a frame's overload events, the frame still in progress. -/
def State.countedFrame (s : State) (samples : Vector Sample 16) : State :=
  (s.madeFrame samples).countOverloads.overloadAll
    ((List.finRange 24).filter (s.madeFrame samples).overloads)

theorem State.frame_eq (s : State) (samples : Vector Sample 16) :
    s.frame samples =
      { s.countedFrame samples with mixer := { (s.countedFrame samples).mixer with inFrame := false } } := rfl

theorem State.backForFrame_frameOnly (s : State) : FrameOnly s s.backForFrame := by
  unfold State.backForFrame
  split
  · exact s.returnOfFrames_frameOnly
  · exact FrameOnly.refl s

theorem State.produceFrame_frameOnly (s : State) (samples : Vector Sample 16) :
    FrameOnly s (s.produceFrame samples) :=
  ⟨_, _, _, _, _, _, _, _, _, rfl, StatesOnly.ofFn _ _⟩

theorem State.advanceGlides_frameOnly (s : State) : FrameOnly s s.advanceGlides :=
  ⟨_, _, _, _, _, _, _, _, _, rfl, StatesOnly.refl _⟩

theorem State.countOverloads_frameOnly (s : State) : FrameOnly s s.countOverloads :=
  ⟨_, _, _, _, _, _, _, _, _, rfl, StatesOnly.refl _⟩

theorem State.endFrame_frameOnly (s : State) :
    FrameOnly s { s with mixer := { s.mixer with inFrame := false } } :=
  ⟨_, _, _, _, _, _, _, _, _, rfl, StatesOnly.refl _⟩

theorem State.madeFrame_frameOnly (s : State) (samples : Vector Sample 16) :
    FrameOnly s (s.madeFrame samples) :=
  (s.backForFrame_frameOnly.trans (State.advanceGlides_frameOnly _)).trans
    (State.produceFrame_frameOnly _ samples)

/-- What a frame event leaves alone. -/
theorem State.frame_frameOnly (s : State) (samples : Vector Sample 16) :
    FrameOnly s (s.frame samples) := by
  have counted : FrameOnly s (s.countedFrame samples) :=
    ((s.madeFrame_frameOnly samples).trans (State.countOverloads_frameOnly _)).trans
      (State.overloadAll_frameOnly _ _)
  rw [State.frame_eq]
  exact counted.trans (State.endFrame_frameOnly _)

theorem Freshness.eq_stale {f : Freshness} (h : ¬f = .fresh) : f = .stale := by
  cases f with
  | fresh => exact absurd rfl h
  | stale => rfl

theorem State.goStale_frame (s : State) :
    ∃ notices,
      s.goStale =
        { s with
          speed := { s.speed with freshness := .stale, staleTimer := none }
          link := { s.link with notices := notices } } := by
  unfold State.goStale
  split
  · exact ⟨_, rfl⟩
  · next stale =>
    refine ⟨s.link.notices, ?_⟩
    rw [← Freshness.eq_stale stale]

theorem State.speedMillisecond_frame (s : State) :
    ∃ effective freshness timer notices,
      s.speedMillisecond =
        { s with
          speed := { s.speed with effective := effective, freshness := freshness, staleTimer := timer }
          link := { s.link with notices := notices } } := by
  unfold State.speedMillisecond
  dsimp only
  split
  · obtain ⟨_, e⟩ := State.goStale_frame _
    rw [e]
    exact ⟨_, _, _, _, rfl⟩
  · exact ⟨_, s.speed.freshness, _, s.link.notices, rfl⟩

/-- A hold timer that runs out moves its route into CLOSING and raises EXPIRED (R40). -/
theorem State.expireHold_frame {s : State} {i : SlotId} (expires : (s.table.slots[i]).holdExpires = true) :
    ∃ r notices, s.routeAt i = some r
      ∧ s.expireHold i =
        { s.setRoute i (some (r.closing .expired)) with link := { s.link with notices := notices } } := by
  cases slot : s.routeAt i with
  | none =>
    rw [State.routeAt] at slot
    rw [Slot.holdExpires, slot] at expires
    cases expires
  | some r =>
    obtain ⟨ns, e, -⟩ := State.raiseFor_frame .expired [i] (s.setRoute i (some (r.closing .expired)))
    refine ⟨r, ns, rfl, ?_⟩
    rw [State.expireHold, slot]
    exact e

theorem State.holdMillisecond_frame (s : State) :
    ∃ notices,
      s.holdMillisecond =
        { s with
          table := { s.table with slots := Vector.ofFn fun i => (s.table.slots[i]).countHold }
          link := { s.link with notices := notices } } := by
  obtain ⟨ns, e, -⟩ := State.raiseFor_frame .expired
    (s.table.order.filter fun i => (s.table.slots[i]).holdExpires)
    { s with table := { s.table with slots := Vector.ofFn fun i => (s.table.slots[i]).countHold } }
  exact ⟨ns, e⟩

/-- The Mode Controller's millisecond event moves the CRANK cause and its timer alone (R173). -/
theorem ModeControl.crankMillisecond_frame (c : ModeControl) (asserted : Bool) :
    ∃ crank timer, c.crankMillisecond asserted = { c with crank := crank, crankTimer := timer } := by
  have counted : ∃ crank timer, c.countCrank = { c with crank := crank, crankTimer := timer } := by
    unfold ModeControl.countCrank
    split
    · exact ⟨_, _, rfl⟩
    · exact ⟨c.crank, _, rfl⟩
  unfold ModeControl.crankMillisecond
  split
  · exact ⟨_, _, rfl⟩
  · exact ⟨c.crank, _, rfl⟩
  · split
    · exact ⟨_, c.crankTimer, rfl⟩
    · exact ⟨c.crank, _, rfl⟩
  all_goals exact counted

end Sys2Proof.Machine
end

section
/-! SUPPORT. What a command can do, said once: the change that each command without a packet makes, and the
change that the owner of each request kind makes. Every statement about all commands goes through these two
lists. -/
namespace Sys2Proof.Machine

/-- The change a command that is no packet makes, with what it takes for it to be made. -/
inductive Event : Instr → State → State → Prop
  | idle (c : Instr) (s : State) : Event c s s
  | powerOn (lines : Lines) (s : State) : Event (.powerOn lines) s (s.restart lines)
  | rstNRelease (lines : Lines) (s : State) :
      Event (.rstNRelease lines) s
        { s.restart lines with link := { (s.restart lines).link with window := s.link.window.abandon } }
  | rstNAssert (s : State) :
      Event .rstNAssert s
        { s with
          pins := { s.pins with rstAsserted := true }
          mixer := { s.mixer with held := Vector.replicate 24 0, sending := Vector.replicate 24 0 }
          link := { s.link with window := s.link.window.abandon, sdo := [] } }
  | wakeLine (c : Instr) (s : State) (wake : WakeLine) (wakeUp : Option Nat)
      (h : wakeUp = s.ctl.wakeUp ∨ wakeUp = none ∨ s.ctl.mode = .standby) :
      Event c s { s with ctl := { s.ctl with wake := wake, wakeUp := wakeUp } }
  | clearPulse (lowNs : Nat) (s : State) : Event (.faultClearPulse lowNs) s s.wakeRises.clearProtection
  | standby (crank : Bool) (awarn : Vector Bool 3) (s : State) :
      Event (.entryToStandby crank awarn) s (s.enterStandby crank awarn)
  | wakeUpEnds (s : State) (h : s.ctl.mode = .standby) :
      Event .endOfWakeUp s
        (({ s with
          ctl := { s.ctl with mode := .setup, wakeUp := none }
          eq := { s.eq with speakers := Vector.ofFn fun sp =>
            { s.eq.speakers[sp] with walk := some 16 } } }).raise 0 .mode none)
  | leavingEnds (s : State) (mode : Mode) (host : Bool) (notices : Vector NoticeSet 4)
      (ends : LeavingMayEnd s.ctl s.table.slots mode host) :
      Event .endOfLeaving s
        { s with
          ctl := { s.ctl with mode := mode, host := host }, link := { s.link with notices := notices } }
  | passReport (s : State) (mode : Mode) (host : Bool) (slots : Vector Slot 32) (order : List SlotId)
      (spill : Vector Bool 32) (notices : Vector NoticeSet 4)
      (ends : LeavingMayEnd s.ctl slots mode host)
      (taken : s.takeReport =
        { s with
          ctl := { s.ctl with mode := mode, host := host }
          table := { s.table with slots := slots, order := order, report := none }
          prec := { s.prec with spill := spill }
          link := { s.link with notices := notices } }) :
      Event .passReport s
        { s with
          ctl := { s.ctl with mode := mode, host := host }
          table := { s.table with slots := slots, order := order, report := none }
          prec := { s.prec with spill := spill }
          link := { s.link with notices := notices } }
  | pass (s : State) (mode : Mode) (host : Bool) (slots : Vector Slot 32) (order : List SlotId)
      (report : Option PassReport) (spill : Vector Bool 32) (free : Nat) (grid : Vector Column 24)
      (lanes : Vector (Vector MixLane 8) 24) (notices : Vector NoticeSet 4)
      (ends : LeavingMayEnd s.ctl slots mode host)
      (passed : s.takeReport.stages =
        { s with
          free := free
          ctl := { s.ctl with mode := mode, host := host }
          table := { s.table with slots := slots, order := order, report := report }
          prec := { s.prec with spill := spill }
          grid := grid
          mixer := { s.mixer with lanes := lanes }
          link := { s.link with notices := notices } }) :
      Event .pass s
        { s with
          free := free
          ctl := { s.ctl with mode := mode, host := host }
          table := { s.table with slots := slots, order := order, report := report }
          prec := { s.prec with spill := spill }
          grid := grid
          mixer := { s.mixer with lanes := lanes }
          link := { s.link with notices := notices } }
  | holdMillisecond (s : State) (notices : Vector NoticeSet 4) :
      Event .routeTableMillisecondEvent s
        { s with
          table := { s.table with slots := Vector.ofFn fun i => (s.table.slots[i]).countHold }
          link := { s.link with notices := notices } }
  | holdExpiry (i : SlotId) (r : Route) (s : State) (notices : Vector NoticeSet 4)
      (slot : s.routeAt i = some r) :
      Event (.holdTimerExpiry i) s
        { s.setRoute i (some (r.closing .expired)) with link := { s.link with notices := notices } }
  | speedMillisecond (s : State) (effective : Nat) (freshness : Freshness) (timer : Option Nat)
      (notices : Vector NoticeSet 4)
      (counted : s.speedMillisecond =
        { s with
          speed := { s.speed with effective := effective, freshness := freshness, staleTimer := timer }
          link := { s.link with notices := notices } }) :
      Event .slewStep s
        { s with
          speed := { s.speed with effective := effective, freshness := freshness, staleTimer := timer }
          link := { s.link with notices := notices } }
  | staleExpiry (s : State) (notices : Vector NoticeSet 4) :
      Event .staleTimerExpiry s
        { s with
          speed := { s.speed with freshness := .stale, staleTimer := none }
          link := { s.link with notices := notices } }
  | toneWalk (s : State) :
      Event .toneWalkExpiry s { s with eq := { s.eq with speakers := Vector.ofFn s.walked } }
  | frame (samples : Vector Sample 16) (s t : State) (framed : s.frame samples = t)
      (only : FrameOnly s t) : Event (.frameEvent samples) s t
  | fsyncEdge (c : Instr) (s : State) : Event c s s.fsyncEdge
  | clockLoss (s : State) (notices : Vector NoticeSet 4) :
      Event .clockLoss s
        { s with
          mixer := { s.mixer with clock := .lost, fsyncLeft := 0, held := Vector.replicate 24 0 }
          link := { s.link with notices := notices } }
  | overload (sp : SpeakerId) (s t : State) (gate : s.mixer.gates[sp] = true)
      (mode : (s.cabin.speakers[sp]).protMode ≠ .off)
      (acted : (s.setProt sp fun p => { p with counter := 0 }).overload sp = t) (only : FrameOnly s t) :
      Event (.overloadEvent sp) s t
  | retryExpiry (sp : SpeakerId) (s : State) (h : (s.prot.speakers[sp]).retry.isSome = true) :
      Event (.retryTimerExpiry sp) s
        { s.setProt sp SpeakerProt.recover with
          mixer := { s.mixer with gates := upd s.mixer.gates sp fun _ => true } }
  | windowExpiry (sp : SpeakerId) (s : State) (h : (s.prot.speakers[sp]).window.isSome = true) :
      Event (.escalationWindowExpiry sp) s (s.setProt sp fun p => { p with window := none, repeats := 0 })
  | awarnSample (awarn : Vector Bool 3) (s : State) : Event (.awarnSample awarn) s (s.protMillisecond awarn)
  | thermalExpiry (port : PortId) (s : State) :
      Event (.thermalHoldExpiry port) s
        { s with prot := { s.prot with
          ports := upd s.prot.ports port fun _ => { state := .clear, hold := none } } }
  | crankSample (asserted : Bool) (s : State) (crank : Bool) (timer : Option Nat)
      (counted : s.ctl.crankMillisecond asserted = { s.ctl with crank := crank, crankTimer := timer }) :
      Event (.crankNSample asserted) s
        { s with
          pins := { s.pins with crankAsserted := asserted }
          ctl := { s.ctl with crank := crank, crankTimer := timer } }
  | crankExpiry (s : State) :
      Event .crankReleaseTimerExpiry s { s with ctl := { s.ctl with crank := false, crankTimer := none } }
  | windowBegin (s : State) (window : ChipSelect) :
      Event .packetWindowBegin s { s with link := { s.link with window := window } }

/-- While RST_N is asserted a command answers the state as it stands, and otherwise its event. -/
theorem event_of_guarded {c : Instr} {s t : State} {o : Host.Outcome State Fault Refusal}
    (h : (if s.pins.rstAsserted then .next s else o) = .next t) (ho : o = .next t → Event c s t) :
    Event c s t := by
  cases hr : s.pins.rstAsserted with
  | true =>
    rw [hr] at h
    cases h
    exact .idle c s
  | false =>
    rw [hr] at h
    exact ho h

/-- Every command that is no packet makes its change, or none. -/
theorem exec_event {c : Instr} (hc : isPacket c = false) {s t : State} (h : exec c s = .next t) :
    Event c s t := by
  cases c
  case powerOn lines => cases h; exact .powerOn lines s
  case rstNAssert => cases h; exact .rstNAssert s
  case rstNRelease lines => cases h; exact .rstNRelease lines s
  case wakeFall =>
    refine event_of_guarded h fun h => ?_
    split at h <;> cases h
    · exact .idle _ s
    all_goals exact .wakeLine _ s .low s.ctl.wakeUp (.inl rfl)
  case faultClearPulse ns =>
    refine event_of_guarded h fun h => ?_
    split at h <;> cases h
    · exact .wakeLine _ s .high s.ctl.wakeUp (.inl rfl)
    · next hm => exact .wakeLine _ s .high (some 2) (.inr (.inr hm))
    · exact .clearPulse ns s
    · next hm => exact .wakeLine _ s .high (some 2) (.inr (.inr hm))
    · exact .wakeLine _ s .high s.ctl.wakeUp (.inl rfl)
  case entryToStandby crank awarn =>
    refine event_of_guarded h fun h => ?_
    split at h <;> cases h
    · exact .wakeLine _ s .longLow none (.inr (.inl rfl))
    · exact .standby crank awarn s
  case wakeUp =>
    refine event_of_guarded h fun h => ?_
    split at h <;> cases h
    · next hm => exact .wakeLine _ s .high (some 2) (.inr (.inr hm))
    · exact .wakeLine _ s .high s.ctl.wakeUp (.inl rfl)
  case wakeUpStopped =>
    refine event_of_guarded h fun h => ?_
    split at h <;> cases h
    · exact .wakeLine _ s .low none (.inr (.inl rfl))
    · exact .idle _ s
  case endOfWakeUp =>
    refine event_of_guarded h fun h => ?_
    split at h <;> cases h
    · next hm => exact .wakeUpEnds s hm.1
    · exact .idle _ s
  case endOfLeaving =>
    refine event_of_guarded h fun h => ?_
    obtain ⟨mode, host, notices, e, ends⟩ := s.leaveIfEmpty_frame
    rw [e] at h
    cases h
    exact .leavingEnds s mode host notices ends
  case pass =>
    refine event_of_guarded h fun h => ?_
    obtain ⟨_, _, _, _, _, _, _, _, _, _, e, ends⟩ := s.pass_frame
    rw [e] at h
    cases h
    exact .pass s _ _ _ _ _ _ _ _ _ _ ends e
  case passReport =>
    refine event_of_guarded h fun h => ?_
    obtain ⟨_, _, _, _, _, _, e, ends⟩ := s.takeReport_frame
    rw [e] at h
    cases h
    exact .passReport s _ _ _ _ _ _ ends e
  case holdTimerExpiry i =>
    refine event_of_guarded h fun h => ?_
    split at h
    · next expires =>
      obtain ⟨r, ns, slot, e⟩ := State.expireHold_frame expires
      rw [e] at h
      cases h
      exact .holdExpiry i r s ns slot
    · cases h
      exact .idle _ s
  case slewStep =>
    refine event_of_guarded h fun h => ?_
    obtain ⟨_, _, _, _, e⟩ := s.speedMillisecond_frame
    rw [e] at h
    cases h
    exact .speedMillisecond s _ _ _ _ e
  case staleTimerExpiry =>
    refine event_of_guarded h fun h => ?_
    split at h
    · obtain ⟨notices, e⟩ := s.goStale_frame
      rw [e] at h
      cases h
      exact .staleExpiry s notices
    · cases h
      exact .idle _ s
  case toneWalkExpiry => exact event_of_guarded h fun h => by cases h; exact .toneWalk s
  case frameEvent samples =>
    exact event_of_guarded h fun h => by cases h; exact .frame samples s _ rfl (s.frame_frameOnly samples)
  case frameDiscard => exact event_of_guarded h fun h => by cases h; exact .fsyncEdge _ s
  case clockLoss =>
    refine event_of_guarded h fun h => ?_
    dsimp only at h
    split at h
    · cases h; exact .idle _ s
    · split at h <;> cases h
      · exact .clockLoss s s.link.notices
      · exact .clockLoss s _
  case overloadEvent sp =>
    refine event_of_guarded h fun h => ?_
    split at h
    · cases h; exact .idle _ s
    · split at h <;> cases h
      · next hg =>
        exact .overload sp s _ hg.1 hg.2 rfl
          ((s.setProt_frameOnly sp _).trans (State.overload_frameOnly _ sp))
      · exact .idle _ s
  case retryTimerExpiry sp =>
    refine event_of_guarded h fun h => ?_
    split at h <;> cases h
    · next hr => exact .retryExpiry sp s hr
    · exact .idle _ s
  case escalationWindowExpiry sp =>
    refine event_of_guarded h fun h => ?_
    split at h <;> cases h
    · next hw => exact .windowExpiry sp s hw
    · exact .idle _ s
  case awarnSample awarn => exact event_of_guarded h fun h => by cases h; exact .awarnSample awarn s
  case thermalHoldExpiry port =>
    refine event_of_guarded h fun h => ?_
    split at h <;> cases h
    · exact .thermalExpiry port s
    · exact .idle _ s
  case crankNSample asserted =>
    refine event_of_guarded h fun h => ?_
    obtain ⟨crank, timer, e⟩ := s.ctl.crankMillisecond_frame asserted
    rw [e] at h
    cases h
    exact .crankSample asserted s crank timer e
  case crankReleaseTimerExpiry =>
    refine event_of_guarded h fun h => ?_
    split at h <;> cases h
    · exact .crankExpiry s
    · exact .idle _ s
  case routeTableMillisecondEvent =>
    refine event_of_guarded h fun h => ?_
    obtain ⟨notices, e⟩ := s.holdMillisecond_frame
    rw [e] at h
    cases h
    exact .holdMillisecond s notices
  case frameBegin => exact event_of_guarded h fun h => by cases h; exact .fsyncEdge _ s
  case packetWindowBegin =>
    have e : exec .packetWindowBegin s = execPacketWindowBegin s := rfl
    rw [e, execPacketWindowBegin] at h
    split at h
    · split at h <;> cases h
      all_goals exact .windowBegin s _
    all_goals
      cases h
      exact .idle _ s
  all_goals cases hc

end Sys2Proof.Machine
end

section
/-! SUPPORT. What the owner of a request can do, said once: the list of the owners' changes, and every packet
command as one of them with the window's and the answer's part of the link. -/
namespace Sys2Proof.Machine

/-- The change the owner of a request of this kind makes, from this lane and these fields. -/
inductive Takes : Kind → LaneId → List Field → State → State → Prop
  | unchanged (k : Kind) (lane : LaneId) (fs : List Field) (s : State) : Takes k lane fs s s
  | clearLinkErrors (fs : List Field) (s : State) : Takes .getStatus 0 fs s s.clearLinkErrors
  | emptyNotices (lane : LaneId) (fs : List Field) (s : State) :
      Takes .getNotices lane fs s
        { s with link := { s.link with notices := upd s.link.notices lane fun _ => .empty } }
  | limit (lane : LaneId) (fs : List Field) (v : Nat) (s : State) :
      Takes .setLimit lane fs s
        { s with link := { s.link with limits := upd s.link.limits lane fun _ => clampNat 8 508 v } }
  | run (lane : LaneId) (fs : List Field) (s : State) (action : natField fs 0x13#8 = some 0)
      (mode : s.ctl.mode = .setup) :
      Takes .setMode lane fs s (({ s with ctl := { s.ctl with mode := .run } }).raise 0 .mode none)
  | leave (lane : LaneId) (fs : List Field) (s : State) (action : natField fs 0x13#8 = some 1)
      (running : s.ctl.mode = .run) (mode : Mode) (host : Bool) (slots : Vector Slot 32)
      (notices : Vector NoticeSet 4) (ends : LeavingMayEnd { s.ctl with mode := .leaving } slots mode host)
      (left : ({ s with ctl := { s.ctl with mode := .leaving } } : State).forceAll.leaveIfEmpty =
        { s with
          ctl := { s.ctl with mode := mode, host := host }
          table := { s.table with slots := slots }
          link := { s.link with notices := notices } }) :
      Takes .setMode lane fs s
        { s with
          ctl := { s.ctl with mode := mode, host := host }
          table := { s.table with slots := slots }
          link := { s.link with notices := notices } }
  | host (lane : LaneId) (fs : List Field) (s : State) (present : Bool)
      (mode : s.ctl.mode = .run ∨ s.ctl.mode = .leaving) :
      Takes .setMode lane fs s { s with ctl := { s.ctl with host := present } }
  | clearProtection (lane : LaneId) (fs : List Field) (s : State) :
      Takes .clearProtect lane fs s s.clearProtection
  | enterRoute (lane : LaneId) (fs : List Field) (s : State) (i : SlotId) (r : Route) (adjusted : Bool)
      (mode : s.ctl.mode = .run) (record : openRecord lane fs = some (r, adjusted))
      (quota : s.table.owned lane < s.table.quotas[lane]) (space : s.table.isFull r.cls = false)
      (lowest : s.table.lowestFree = some i) : Takes .openRoute lane fs s (s.enterRoute i r)
  | adjust (lane : LaneId) (fs : List Field) (s : State) (i : SlotId) (r : Route) (a : AdjustArgs)
      (slot : s.routeAt i = some r) (own : lane = r.owner ∨ lane = 0) (state : r.state ≠ .closing)
      (args : adjustArgs fs = some a) : Takes .adjust lane fs s (s.setRoute i (some (r.adjusted a)))
  | close (lane : LaneId) (fs : List Field) (s : State) (i : SlotId) (r : Route) (cut : Bool)
      (slot : s.routeAt i = some r) (own : lane = r.owner ∨ lane = 0) :
      Takes .close lane fs s (s.setRoute i (some (r.closedBy cut)))
  | report (lane : LaneId) (fs : List Field) (s : State) (v : Nat) :
      Takes .speed lane fs s
        { s with speed := { s.speed with
          reported := clampNat 0 1200 v, freshness := .fresh, staleTimer := some s.speed.staleTime } }
  | stale (lane : LaneId) (fs : List Field) (s : State) (notices : Vector NoticeSet 4) :
      Takes .speed lane fs s
        { s with
          speed := { s.speed with freshness := .stale, staleTimer := none }
          link := { s.link with notices := notices } }
  | staleTime (lane : LaneId) (fs : List Field) (s : State) (v : Nat) :
      Takes .setStale lane fs s { s with speed := { s.speed with staleTime := clampNat 100 2000 v } }
  | master (lane : LaneId) (fs : List Field) (s : State) (level : Int) (mute : Bool) (zone : Zone)
      (range : level = s.cabin.masterLevel ∨ -480 ≤ level ∧ level ≤ 0) :
      Takes .setMaster lane fs s
        { s with cabin := { s.cabin with masterLevel := level, masterMute := mute, toneZone := zone } }
  | zone (lane : LaneId) (fs : List Field) (s : State) (z : Zone) (level : Option Int) (mute : Option Bool)
      (bass treble : Option Int) (curve : Option (Option (Fin 4))) :
      Takes .setZone lane fs s
        { s with cabin := { s.cabin with
          zones := upd s.cabin.zones z fun old => old.write level mute bass treble curve } }
  | crankDelay (lane : LaneId) (fs : List Field) (s : State) (v : Nat) :
      Takes .setCrankDelay lane fs s { s with ctl := { s.ctl with crankDelay := clampNat 0 2000 v } }
  | speaker (lane : LaneId) (fs : List Field) (s : State) (sp : SpeakerId) (e : SpeakerEntry)
      (adjusted : Bool) (mode : s.ctl.mode = .setup) (entry : speakerEntryField fs = some (e, adjusted)) :
      Takes .loadSpeaker lane fs s (s.loadSpeaker sp e)
  | curve (lane : LaneId) (fs : List Field) (s : State) (c : Fin 4) (p : Fin 8 → CurvePoint)
      (loadable : LoadablePoints p) :
      Takes .loadCurve lane fs s
        { s with speed := { s.speed with
          curves := upd s.speed.curves c fun _ =>
            Vector.ofFn fun i => ⟨(p i).speed, clampTo 0 72 (p i).gain⟩ } }
  | duck (lane : LaneId) (fs : List Field) (s : State) (cls : RouteClass) (media chime guide call : Nat) :
      Takes .loadDuck lane fs s
        { s with prec := { s.prec with duck := upd s.prec.duck cls.index fun _ =>
          #v[clampNat 0 480 media, clampNat 0 480 chime, clampNat 0 480 guide, clampNat 0 480 call, 0] } }
  | ramp (lane : LaneId) (fs : List Field) (s : State) (p : Fin 8) (rise fall : Nat) :
      Takes .loadRamp lane fs s
        { s with ramps := upd s.ramps p fun _ =>
          ⟨(clampNat 1 480 rise : Nat), (clampNat 1 480 fall : Nat)⟩ }
  | toneLow (lane : LaneId) (fs : List Field) (s : State) (i : Fin 25) (bs : List Byte) :
      Takes .loadTone lane fs s
        { s with eq := { s.eq with toneLow := upd s.eq.toneLow i fun _ => coeffsOf bs } }
  | toneHigh (lane : LaneId) (fs : List Field) (s : State) (i : Fin 25) (bs : List Byte) :
      Takes .loadTone lane fs s
        { s with eq := { s.eq with toneHigh := upd s.eq.toneHigh i fun _ => coeffsOf bs } }
  | voicing (lane : LaneId) (fs : List Field) (s : State) (sp : SpeakerId) (bs : List Byte) :
      Takes .loadVoicing lane fs s
        { s with eq := { s.eq with speakers := upd s.eq.speakers sp fun e => { e with voicing :=
          #v[coeffsOf bs, coeffsOf (bs.drop 15), coeffsOf (bs.drop 30), coeffsOf (bs.drop 45)] } } }
  | quota (lane : LaneId) (fs : List Field) (s : State) (owner : LaneId) (q : Nat)
      (mode : s.ctl.mode = .setup) :
      Takes .setQuota lane fs s
        { s with table := { s.table with quotas := upd s.table.quotas owner fun _ => clampNat 0 32 q } }

theorem takeSetMode_takes (lane : LaneId) (fs : List Field) (s : State) :
    Takes .setMode lane fs s (takeSetMode lane fs s).1 := by
  unfold takeSetMode
  split
  · next action =>
    unfold State.setModeRun
    split
    · next mode => exact .run lane fs s action mode
    all_goals exact .unchanged _ lane fs s
  · next action =>
    unfold State.setModeSetup
    split
    · next running =>
      obtain ⟨mode, host, slots, notices, e, ends⟩ := s.leave_frame
      dsimp only
      rw [e]
      exact .leave lane fs s action running mode host slots notices ends e
    all_goals exact .unchanged _ lane fs s
  · unfold State.setHost
    split
    · next mode => exact .host lane fs s true (.inl mode)
    · next mode => exact .host lane fs s true (.inr mode)
    all_goals exact .unchanged _ lane fs s
  · unfold State.setHost
    split
    · next mode => exact .host lane fs s false (.inl mode)
    · next mode => exact .host lane fs s false (.inr mode)
    all_goals exact .unchanged _ lane fs s
  · exact .unchanged _ lane fs s

theorem takeOpen_takes (lane : LaneId) (fs : List Field) (s : State) :
    Takes .openRoute lane fs s (takeOpen lane fs s).1 := by
  unfold takeOpen
  split
  · exact .unchanged _ lane fs s
  next mode =>
  split
  · exact .unchanged _ lane fs s
  next r adjusted record =>
  split
  · exact .unchanged _ lane fs s
  next quota =>
  split
  · exact .unchanged _ lane fs s
  next space =>
  split
  · exact .unchanged _ lane fs s
  next i lowest =>
  exact .enterRoute lane fs s i r adjusted (not_not.mp mode) record (Nat.not_le.mp quota)
    (Bool.eq_false_iff.mpr space) lowest

/-- A lane that a route request does not deny is the route's owner or lane 0 (R35, R38). -/
theorem own_of_not_denied {lane owner : LaneId} (h : ¬(lane ≠ owner ∧ lane ≠ 0)) :
    lane = owner ∨ lane = 0 := by
  by_cases e : lane = owner
  · exact .inl e
  · exact .inr (not_not.mp fun e0 => h ⟨e, e0⟩)

theorem takeAdjust_takes (lane : LaneId) (fs : List Field) (s : State) :
    Takes .adjust lane fs s (takeAdjust lane fs s).1 := by
  unfold takeAdjust
  split
  · exact .unchanged _ lane fs s
  next i r slot =>
  split
  · exact .unchanged _ lane fs s
  next own =>
  split
  · exact .unchanged _ lane fs s
  next state =>
  split
  · exact .unchanged _ lane fs s
  next a args =>
  exact .adjust lane fs s i r a (State.slotOf_routeAt slot) (own_of_not_denied own) state args

theorem takeClose_takes (lane : LaneId) (fs : List Field) (s : State) :
    Takes .close lane fs s (takeClose lane fs s).1 := by
  unfold takeClose
  split
  · exact .unchanged _ lane fs s
  next i r slot =>
  split
  · exact .unchanged _ lane fs s
  next own =>
  split
  · exact .unchanged _ lane fs s
  next cut _ =>
  exact .close lane fs s i r cut (State.slotOf_routeAt slot) (own_of_not_denied own)

theorem takeSpeed_takes (lane : LaneId) (fs : List Field) (s : State) :
    Takes .speed lane fs s (takeSpeed lane fs s).1 := by
  unfold takeSpeed
  split
  · exact .unchanged _ lane fs s
  next v _ =>
  split
  · dsimp only
    split
    · obtain ⟨notices, e⟩ := s.goStale_frame
      rw [e]
      exact .stale lane fs s notices
    · exact .unchanged _ lane fs s
  · exact .report lane fs s v

theorem takeSetMaster_takes (lane : LaneId) (fs : List Field) (s : State) :
    Takes .setMaster lane fs s (takeSetMaster lane fs s).1 := by
  unfold takeSetMaster
  split
  · split
    · refine .master lane fs s _ _ _ ?_
      split
      · exact .inr (clampTo_bounds (by decide) _)
      · exact .inl rfl
    · exact .unchanged _ lane fs s
  · exact .unchanged _ lane fs s

theorem takeSetZone_takes (lane : LaneId) (fs : List Field) (s : State) :
    Takes .setZone lane fs s (takeSetZone lane fs s).1 := by
  unfold takeSetZone
  split
  · split
    · exact .zone lane fs s _ _ _ _ _ _
    · exact .unchanged _ lane fs s
  · exact .unchanged _ lane fs s

theorem takeLoadSpeaker_takes (lane : LaneId) (fs : List Field) (s : State) :
    Takes .loadSpeaker lane fs s (takeLoadSpeaker lane fs s).1 := by
  unfold takeLoadSpeaker
  split
  · exact .unchanged _ lane fs s
  next mode =>
  split
  · next entry => exact .speaker lane fs s _ _ _ (not_not.mp mode) entry
  · exact .unchanged _ lane fs s

theorem takeLoadCurve_takes (lane : LaneId) (fs : List Field) (s : State) :
    Takes .loadCurve lane fs s (takeLoadCurve lane fs s).1 := by
  unfold takeLoadCurve
  split
  · next c p0 p1 p2 p3 p4 p5 p6 p7 _ _ =>
    dsimp only
    split
    · next check =>
      have loadable : LoadablePoints ![p0, p1, p2, p3, p4, p5, p6, p7] :=
        (loadable_check_iff _).mp (by simpa [List.ofFn_succ] using check)
      exact .curve lane fs s c _ loadable
    · exact .unchanged _ lane fs s
  · exact .unchanged _ lane fs s

theorem takeLoadDuck_takes (lane : LaneId) (fs : List Field) (s : State) :
    Takes .loadDuck lane fs s (takeLoadDuck lane fs s).1 := by
  unfold takeLoadDuck
  split
  · exact .duck lane fs s _ _ _ _ _
  · exact .unchanged _ lane fs s

theorem takeLoadRamp_takes (lane : LaneId) (fs : List Field) (s : State) :
    Takes .loadRamp lane fs s (takeLoadRamp lane fs s).1 := by
  unfold takeLoadRamp
  split
  · exact .ramp lane fs s _ _ _
  · exact .unchanged _ lane fs s

theorem takeLoadTone_takes (lane : LaneId) (fs : List Field) (s : State) :
    Takes .loadTone lane fs s (takeLoadTone lane fs s).1 := by
  unfold takeLoadTone
  split
  · exact .unchanged _ lane fs s
  · split
    · exact .toneLow lane fs s _ _
    · exact .toneHigh lane fs s _ _
    · exact .unchanged _ lane fs s

theorem takeLoadVoicing_takes (lane : LaneId) (fs : List Field) (s : State) :
    Takes .loadVoicing lane fs s (takeLoadVoicing lane fs s).1 := by
  unfold takeLoadVoicing
  split
  · exact .unchanged _ lane fs s
  · split
    · exact .voicing lane fs s _ _
    · exact .unchanged _ lane fs s

theorem takeSetQuota_takes (lane : LaneId) (fs : List Field) (s : State) :
    Takes .setQuota lane fs s (takeSetQuota lane fs s).1 := by
  unfold takeSetQuota
  split
  · exact .unchanged _ lane fs s
  next mode =>
  split
  · exact .quota lane fs s _ _ (not_not.mp mode)
  · exact .unchanged _ lane fs s

/-- Every owner makes one of these changes. -/
theorem owner_takes (k : Kind) (lane : LaneId) (fs : List Field) (s : State) :
    Takes k lane fs s (ownerOf k lane fs s).1 := by
  cases k with
  | null => exact .unchanged _ lane fs s
  | getStatus =>
    show Takes _ _ _ _ (takeGetStatus lane fs s).1
    unfold takeGetStatus
    dsimp only
    split
    · next h => subst h; exact .clearLinkErrors fs s
    · exact .unchanged _ lane fs s
  | getNotices => exact .emptyNotices lane fs s
  | setLimit =>
    show Takes _ _ _ _ (takeSetLimit lane fs s).1
    unfold takeSetLimit
    split
    · exact .unchanged _ lane fs s
    · exact .limit lane fs _ s
  | setMode => exact takeSetMode_takes lane fs s
  | clearProtect => exact .clearProtection lane fs s
  | openRoute => exact takeOpen_takes lane fs s
  | adjust => exact takeAdjust_takes lane fs s
  | close => exact takeClose_takes lane fs s
  | query =>
    show Takes _ _ _ _ (takeQuery lane fs s).1
    unfold takeQuery
    split <;> exact .unchanged _ lane fs s
  | list =>
    show Takes _ _ _ _ (takeList lane fs s).1
    unfold takeList
    split <;> exact .unchanged _ lane fs s
  | speed => exact takeSpeed_takes lane fs s
  | setStale =>
    show Takes _ _ _ _ (takeSetStale lane fs s).1
    unfold takeSetStale
    split
    · exact .unchanged _ lane fs s
    · exact .staleTime lane fs s _
  | setMaster => exact takeSetMaster_takes lane fs s
  | setZone => exact takeSetZone_takes lane fs s
  | setCrankDelay =>
    show Takes _ _ _ _ (takeSetCrankDelay lane fs s).1
    unfold takeSetCrankDelay
    split
    · exact .unchanged _ lane fs s
    · exact .crankDelay lane fs s _
  | loadSpeaker => exact takeLoadSpeaker_takes lane fs s
  | loadCurve => exact takeLoadCurve_takes lane fs s
  | loadDuck => exact takeLoadDuck_takes lane fs s
  | loadRamp => exact takeLoadRamp_takes lane fs s
  | loadTone => exact takeLoadTone_takes lane fs s
  | loadVoicing => exact takeLoadVoicing_takes lane fs s
  | setQuota => exact takeSetQuota_takes lane fs s

/-- A packet command changes the link alone, or is an admitted request: the link's window first, then the
owner's change, then the answer in the queue. -/
theorem packet_takes {c : Instr} (hc : isPacket c = true) {s t : State} (h : exec c s = .next t) :
    LinkOnly s t
    ∨ ∃ k w fs u v l, (c.wf = true → c = commandOf k w) ∧ Admits s k w fs u ∧ Takes k w.lane fs u v
        ∧ t = { v with link := { v.link with queue := l } } := by
  rcases packet_law hc h with hl | ⟨k, w, fs, u, -, hw, ha, rfl⟩
  · exact .inl hl
  · exact .inr ⟨k, w, fs, u, _, _, hw, ha, owner_takes k w.lane fs u, rfl⟩

/-- A property that the link has no part in, kept by every owner's change and every event, every command
keeps. -/
theorem exec_keeps {P : State → Prop} (hlink : ∀ (s : State) (l : Link), P s → P { s with link := l })
    (htakes : ∀ {k lane fs s t}, Takes k lane fs s t → P s → P t)
    (hevent : ∀ {c s t}, Event c s t → P s → P t) {c : Instr} {s t : State} (h : exec c s = .next t)
    (hs : P s) : P t := by
  cases hc : isPacket c with
  | true => exact packet_keeps hlink (fun k lane fs s => htakes (owner_takes k lane fs s)) hc h hs
  | false => exact hevent (exec_event hc h) hs

/-- What every command keeps, and the queue of commands has no part in, every step keeps. -/
theorem step_keeps {P : State → Prop} (hpending : ∀ (s : State) (q : List Instr), P s → P { s with pending := q })
    (hexec : ∀ {c s t}, exec c s = .next t → P s → P t) {s t : State} (h : step s = .next t) (hs : P s) :
    P t := by
  unfold step at h
  split at h
  · cases h
    exact hs
  · next c rest _ => exact hexec h (hpending s rest hs)

end Sys2Proof.Machine
end

section
/-! PROOF. The operating mode (O51): how an owner or an event can change it. -/
namespace Sys2Proof.Machine

/-- An owner changes the mode by SET_MODE alone: RUN in SETUP, and SETUP in RUN (R169, R170). -/
theorem Takes.mode_cases {k : Kind} {lane : LaneId} {fs : List Field} {s t : State}
    (h : Takes k lane fs s t) :
    t.ctl.mode = s.ctl.mode
    ∨ k = .setMode ∧ natField fs 0x13#8 = some 0 ∧ s.ctl.mode = .setup ∧ t.ctl.mode = .run
    ∨ k = .setMode ∧ natField fs 0x13#8 = some 1 ∧ s.ctl.mode = .run
      ∧ (t.ctl.mode = .leaving ∨ t.ctl.mode = .setup ∧ ∀ i : SlotId, t.routeAt i = none) := by
  cases h with
  | run _ _ _ action mode => exact .inr (.inl ⟨rfl, action, mode, rfl⟩)
  | leave _ _ _ action running mode host slots notices ends =>
    refine .inr (.inr ⟨rfl, action, running, ?_⟩)
    rcases ends with ⟨mode, -⟩ | ⟨-, setup, -, empty⟩
    · exact .inl mode
    · exact .inr ⟨setup, empty⟩
  | _ => exact .inl rfl

/-- A SET_MODE window whose fields read as these carries their action (R168). -/
theorem Admits.action {s u : State} {w : Window} {fs : List Field} (h : Admits s .setMode w fs u) :
    w.action = natField fs 0x13#8 := by
  obtain ⟨⟨-, -, sound⟩, -, fields⟩ := h
  rw [Window.action, Window.fields, sound, if_neg Bool.false_ne_true, fields, natField]

theorem LeavingMayEnd.mode_cases {c : ModeControl} {slots : Vector Slot 32} {mode : Mode} {host : Bool}
    (h : LeavingMayEnd c slots mode host) :
    mode = c.mode ∨ c.mode = .leaving ∧ mode = .setup ∧ ∀ i : SlotId, (slots[i]).route = none :=
  h.imp And.left fun ⟨leaving, setup, _, empty⟩ => ⟨leaving, setup, empty⟩

/-- An event changes the mode by a reset, at entry to STANDBY, at the end of the wake-up and at the end of
LEAVING alone (R161). -/
theorem Event.mode_cases {c : Instr} {s t : State} (h : Event c s t) :
    t.ctl.mode = s.ctl.mode
    ∨ (∃ lines, c = .powerOn lines ∨ c = .rstNRelease lines)
    ∨ (t.ctl.mode = .standby ∧ ∃ crank awarn, c = .entryToStandby crank awarn)
    ∨ (s.ctl.mode = .standby ∧ t.ctl.mode = .setup ∧ c = .endOfWakeUp)
    ∨ (s.ctl.mode = .leaving ∧ t.ctl.mode = .setup ∧ ∀ i : SlotId, t.routeAt i = none) := by
  cases h with
  | powerOn lines => exact .inr (.inl ⟨lines, .inl rfl⟩)
  | rstNRelease lines => exact .inr (.inl ⟨lines, .inr rfl⟩)
  | standby crank awarn => exact .inr (.inr (.inl ⟨rfl, crank, awarn, rfl⟩))
  | wakeUpEnds _ mode => exact .inr (.inr (.inr (.inl ⟨mode, rfl, rfl⟩)))
  | leavingEnds _ _ _ _ ends => exact ends.mode_cases.imp_right fun h => .inr (.inr (.inr h))
  | passReport _ _ _ _ _ _ _ ends => exact ends.mode_cases.imp_right fun h => .inr (.inr (.inr h))
  | pass _ _ _ _ _ _ _ _ _ _ _ ends => exact ends.mode_cases.imp_right fun h => .inr (.inr (.inr h))
  | frame samples _ _ _ only =>
    obtain ⟨_, _, _, _, _, _, _, _, _, rfl, -⟩ := only
    exact .inl rfl
  | overload _ _ _ _ _ _ only =>
    obtain ⟨_, _, _, _, _, _, _, _, _, rfl, -⟩ := only
    exact .inl rfl
  | _ => exact .inl rfl

/-- Settles O51: the owners' changes of the mode and the events', with the row that a well-formed SET_MODE
stands under by its action. -/
theorem modeChangesOnlyByItsEvents : Obligations.ModeChangesOnlyByItsEvents := by
  intro c s t wf h changed
  cases hc : isPacket c with
  | false =>
    rcases (exec_event hc h).mode_cases with same | reset | standby | wake | ⟨leaving, setup, empty⟩
    · exact absurd same changed
    · exact .inl reset
    · exact .inr (.inl standby)
    · exact .inr (.inr (.inl wake))
    · exact .inr (.inr (.inr (.inr (.inr ⟨.inl leaving, setup, empty⟩))))
  | true =>
    rcases packet_takes hc h with ⟨l, rfl, -, -⟩ | ⟨k, w, fs, u, v, l, row, admits, takes, rfl⟩
    · exact absurd rfl changed
    · have ctl : u.ctl = s.ctl := by rw [admits.1.1.frame]
      rcases takes.mode_cases with same | ⟨rfl, action, setup, run⟩ | ⟨rfl, action, run, left⟩
      · exact absurd (same.trans (congrArg _ ctl)) changed
      · rw [ctl] at setup
        have hrow : c = .setModeRun w := by simp only [row wf, commandOf, admits.action, action]
        exact .inr (.inr (.inr (.inl ⟨setup, run, w, hrow⟩)))
      · rw [ctl] at run
        have hrow : c = .setModeSetup w := by simp only [row wf, commandOf, admits.action, action]
        rcases left with leaving | ⟨setup, empty⟩
        · exact .inr (.inr (.inr (.inr (.inl ⟨run, leaving, w, hrow⟩))))
        · exact .inr (.inr (.inr (.inr (.inr ⟨.inr ⟨run, w, hrow⟩, setup, empty⟩))))

end Sys2Proof.Machine
end

section
/-! PROOF. The settings (O52): which request writes each, and that nothing else does. -/
namespace Sys2Proof.Machine

/-- Each setting stands as it was, or the change is that of the request kind that writes it; an event is
that of no kind. -/
structure SettingsBy (k : Option Kind) (s t : State) : Prop where
  speakers : t.cabin.speakers = s.cabin.speakers ∨ k = some .loadSpeaker := by exact .inl rfl
  zones : t.cabin.zones = s.cabin.zones ∨ k = some .setZone := by exact .inl rfl
  level : t.cabin.masterLevel = s.cabin.masterLevel ∨ k = some .setMaster := by exact .inl rfl
  mute : t.cabin.masterMute = s.cabin.masterMute ∨ k = some .setMaster := by exact .inl rfl
  toneZone : t.cabin.toneZone = s.cabin.toneZone ∨ k = some .setMaster := by exact .inl rfl
  duck : t.prec.duck = s.prec.duck ∨ k = some .loadDuck := by exact .inl rfl
  curves : t.speed.curves = s.speed.curves ∨ k = some .loadCurve := by exact .inl rfl
  staleTime : t.speed.staleTime = s.speed.staleTime ∨ k = some .setStale := by exact .inl rfl
  ramps : t.ramps = s.ramps ∨ k = some .loadRamp := by exact .inl rfl
  quotas : t.table.quotas = s.table.quotas ∨ k = some .setQuota := by exact .inl rfl
  crankDelay : t.ctl.crankDelay = s.ctl.crankDelay ∨ k = some .setCrankDelay := by exact .inl rfl
  limits : t.link.limits = s.link.limits ∨ k = some .setLimit := by exact .inl rfl
  toneLow : t.eq.toneLow = s.eq.toneLow ∨ k = some .loadTone := by exact .inl rfl
  toneHigh : t.eq.toneHigh = s.eq.toneHigh ∨ k = some .loadTone := by exact .inl rfl
  voicing : (∀ sp : SpeakerId, (t.eq.speakers[sp]).voicing = (s.eq.speakers[sp]).voicing)
    ∨ k = some .loadVoicing := by exact .inl fun _ => rfl

theorem StatesOnly.voicing {a b : Vector SpeakerEq 24} (h : StatesOnly a b) (sp : SpeakerId) :
    (b[sp]).voicing = (a[sp]).voicing := by rw [h sp]

theorem FrameOnly.settings {s t : State} (h : FrameOnly s t) : SettingsBy none s t := by
  obtain ⟨_, _, _, _, _, _, _, _, _, rfl, same⟩ := h
  exact { voicing := .inl same.voicing }

theorem LinkOnly.settings {s t : State} (h : LinkOnly s t) : SettingsBy none s t := by
  obtain ⟨l, rfl, -, limits⟩ := h
  exact { limits := .inl limits }

/-- What stood through an event or window stands through the change that follows, unless its kind writes
it. -/
theorem SettingsBy.trans {k : Option Kind} {s u t : State} (h : SettingsBy none s u)
    (h' : SettingsBy k u t) : SettingsBy k s t := by
  have stood {α : Type} {a b c : α} {K : Kind} (e : b = a ∨ (none : Option Kind) = some K)
      (e' : c = b ∨ k = some K) : c = a ∨ k = some K := by
    rcases e with e | e
    · rw [← e]
      exact e'
    · cases e
  constructor
  case voicing =>
    rcases h.voicing with e | e
    · exact h'.voicing.imp_left fun e' sp => (e' sp).trans (e sp)
    · cases e
  case speakers => exact stood h.speakers h'.speakers
  case zones => exact stood h.zones h'.zones
  case level => exact stood h.level h'.level
  case mute => exact stood h.mute h'.mute
  case toneZone => exact stood h.toneZone h'.toneZone
  case duck => exact stood h.duck h'.duck
  case curves => exact stood h.curves h'.curves
  case staleTime => exact stood h.staleTime h'.staleTime
  case ramps => exact stood h.ramps h'.ramps
  case quotas => exact stood h.quotas h'.quotas
  case crankDelay => exact stood h.crankDelay h'.crankDelay
  case limits => exact stood h.limits h'.limits
  case toneLow => exact stood h.toneLow h'.toneLow
  case toneHigh => exact stood h.toneHigh h'.toneHigh

/-- A request writes the settings of its own kind alone. -/
theorem Takes.settings {k : Kind} {lane : LaneId} {fs : List Field} {s t : State}
    (h : Takes k lane fs s t) : SettingsBy (some k) s t := by
  cases h
  case limit => exact { limits := .inr rfl }
  case staleTime => exact { staleTime := .inr rfl }
  case master => exact { level := .inr rfl, mute := .inr rfl, toneZone := .inr rfl }
  case zone => exact { zones := .inr rfl }
  case crankDelay => exact { crankDelay := .inr rfl }
  case speaker => exact { speakers := .inr rfl }
  case curve => exact { curves := .inr rfl }
  case duck => exact { duck := .inr rfl }
  case ramp => exact { ramps := .inr rfl }
  case toneLow => exact { toneLow := .inr rfl }
  case toneHigh => exact { toneHigh := .inr rfl }
  case voicing => exact { voicing := .inr rfl }
  case quota => exact { quotas := .inr rfl }
  all_goals exact {}

theorem State.walked_voicing (s : State) (sp : SpeakerId) :
    (s.walked sp).voicing = (s.eq.speakers[sp]).voicing := by
  unfold State.walked
  dsimp only
  split <;> rfl

/-- No event but the resets touches a setting. -/
theorem Event.settings {c : Instr} {s t : State} (h : Event c s t)
    (reset : ∀ lines, c ≠ .powerOn lines ∧ c ≠ .rstNRelease lines) : SettingsBy none s t := by
  cases h
  case powerOn lines => exact absurd rfl (reset lines).1
  case rstNRelease lines => exact absurd rfl (reset lines).2
  case standby =>
    simp only [State.enterStandby, RouteTable.freeEvery, SpeedMonitor.standby, Equaliser.standby,
      Link.standby]
    exact { voicing := .inl fun sp => by simp only [ofFn_get, SpeakerEq.atIndices] }
  case wakeUpEnds =>
    simp only [State.raise]
    exact { voicing := .inl fun sp => by simp only [ofFn_get] }
  case toneWalk => exact { voicing := .inl fun sp => by simp only [ofFn_get, State.walked_voicing] }
  case frame only => exact only.settings
  case overload only => exact only.settings
  all_goals exact {}

/-- A command's change of the settings is that of its kind. -/
theorem exec_settings {c : Instr} {s t : State} (wf : c.wf = true) (h : exec c s = .next t)
    (reset : ∀ lines, c ≠ .powerOn lines ∧ c ≠ .rstNRelease lines) :
    ∃ k, SettingsBy k s t ∧ ∀ kind, k = some kind → ∃ w, c = commandOf kind w := by
  cases hc : isPacket c with
  | false => exact ⟨none, (exec_event hc h).settings reset, nofun⟩
  | true =>
    rcases packet_takes hc h with link | ⟨k, w, fs, u, v, l, row, admits, takes, rfl⟩
    · exact ⟨none, link.settings, nofun⟩
    · have settings := admits.1.1.linkOnly.settings.trans takes.settings
      refine ⟨some k, ?_, ?_⟩
      · exact ⟨settings.1, settings.2, settings.3, settings.4, settings.5, settings.6, settings.7,
          settings.8, settings.9, settings.10, settings.11, settings.12, settings.13, settings.14,
          settings.15⟩
      · rintro _ ⟨⟩
        exact ⟨w, row wf⟩

/-- Settles O52: a setting that changed names the kind that writes it, and so the command's row. -/
theorem settingsChangeOnlyByTheirRequest : Obligations.SettingsChangeOnlyByTheirRequest := by
  intro c s t wf h reset
  obtain ⟨k, by_kind, row⟩ := exec_settings wf h reset
  have named {α : Type} {a b : α} {kind : Kind} (e : a = b ∨ k = some kind) (changed : a ≠ b) :
      ∃ w, c = commandOf kind w := row kind (e.resolve_left changed)
  refine ⟨named by_kind.speakers, named by_kind.zones, ?master, named by_kind.duck, named by_kind.curves,
    named by_kind.staleTime, named by_kind.ramps, named by_kind.quotas, named by_kind.crankDelay,
    named by_kind.limits, ?tone, fun sp => named (by_kind.voicing.imp_left fun e => e sp)⟩
  case master =>
    rintro (level | mute | toneZone)
    · exact named by_kind.level level
    · exact named by_kind.mute mute
    · exact named by_kind.toneZone toneZone
  case tone =>
    rintro (low | high)
    · exact named by_kind.toneLow low
    · exact named by_kind.toneHigh high

end Sys2Proof.Machine
end

section
/-! PROOF. Client lanes (O53): what a request from lane 1, 2 or 3 can reach. -/
namespace Sys2Proof.Machine

/-- A change of the link's window, SDO record, queue and OVERRUN alone. -/
def LinkQuiet (s t : State) : Prop :=
  ∃ window sdo queue overrun,
    t = { s with link := { s.link with window := window, sdo := sdo, queue := queue, overrun := overrun } }

theorem Opens.quiet {s u : State} {n : Nat} (h : Opens s n u) : LinkQuiet s u := by
  obtain ⟨f, -, rfl⟩ := h
  exact ⟨_, _, _, s.link.overrun, rfl⟩

/-- A request leaves the link errors, limits and notice sets, or is its owner's change and answer. -/
theorem State.request_quiet (s : State) (k : Kind) (w : Window) (owner : Owner) :
    LinkQuiet s (s.request k w owner)
    ∨ ∃ fs u, Admits s k w fs u
        ∧ s.request k w owner =
          (owner w.lane fs u).1.answer w.lane k.code u.link.limits[w.lane] (owner w.lane fs u).2 := by
  rcases s.takeWindow_cases (4 + w.body.length) with ⟨-, h⟩ | ⟨u, ho, h⟩
  · left
    rw [State.request, h]
    exact ⟨_, _, s.link.queue, s.link.overrun, rfl⟩
  · rw [State.request, h]
    rcases u.handle_cases k w owner with e | ⟨r, -, e⟩ | ⟨fs, hq, hp, hl, hf, e⟩
    · left
      obtain ⟨_, _, _, _, rfl⟩ := ho.quiet
      rw [e]
      exact ⟨_, _, _, _, rfl⟩
    · left
      obtain ⟨_, _, _, _, rfl⟩ := ho.quiet
      rw [e]
      exact ⟨_, _, _, _, rfl⟩
    · exact .inr ⟨fs, u, ⟨⟨ho, hq, hp⟩, hl, hf⟩, e⟩

/-- What a change from a client lane leaves alone (R183). -/
def ClientKeeps (lane : LaneId) (s t : State) : Prop :=
  t.ctl = s.ctl ∧ t.pins = s.pins ∧ t.cabin = s.cabin ∧ t.prec.duck = s.prec.duck
  ∧ t.pending = s.pending ∧ t.free = s.free ∧ t.table.report = s.table.report
  ∧ t.ramps = s.ramps ∧ t.grid = s.grid ∧ t.mixer = s.mixer ∧ t.eq = s.eq ∧ t.prot = s.prot
  ∧ t.speed.curves = s.speed.curves ∧ t.speed.staleTime = s.speed.staleTime
  ∧ t.speed.effective = s.speed.effective ∧ t.table.quotas = s.table.quotas
  ∧ t.link.capture = s.link.capture ∧ t.link.linkErr = s.link.linkErr
  ∧ (∀ other : LaneId, other ≠ lane → t.link.limits[other] = s.link.limits[other])
  ∧ ∀ (i : SlotId) (r : Route), s.routeAt i = some r → r.owner ≠ lane →
      t.table.slots[i] = s.table.slots[i] ∧ t.prec.spill[i] = s.prec.spill[i]

theorem ClientKeeps.refl (lane : LaneId) (s : State) : ClientKeeps lane s s :=
  ⟨rfl, rfl, rfl, rfl, rfl, rfl, rfl, rfl, rfl, rfl, rfl, rfl, rfl, rfl, rfl, rfl, rfl, rfl,
    fun _ _ => rfl, fun _ _ _ _ => ⟨rfl, rfl⟩⟩

theorem ClientKeeps.of_quiet {lane : LaneId} {s t : State} (h : LinkQuiet s t) : ClientKeeps lane s t := by
  obtain ⟨_, _, _, _, rfl⟩ := h
  exact ClientKeeps.refl lane s

/-- A change of one slot that is FREE or the lane's own. -/
theorem ClientKeeps.of_setRoute {lane : LaneId} {s : State} {i : SlotId} {r : Route}
    (slot : s.routeAt i = some r) (own : lane = r.owner) (now : Option Route) :
    ClientKeeps lane s (s.setRoute i now) := by
  refine ⟨rfl, rfl, rfl, rfl, rfl, rfl, rfl, rfl, rfl, rfl, rfl, rfl, rfl, rfl, rfl, rfl, rfl, rfl,
    fun _ _ => rfl, fun j q hq other => ⟨upd_ne _ _ _ _ ?_, rfl⟩⟩
  rintro rfl
  rw [slot] at hq
  cases hq
  exact other own.symm

/-- The lowest FREE slot is FREE, and every lower one holds a route (R22). -/
theorem RouteTable.lowestFree_law {s : State} {i : SlotId} :
    s.table.lowestFree = some i ↔
      s.routeAt i = none ∧ ∀ j : SlotId, j < i → (s.routeAt j).isSome = true := by
  rw [RouteTable.lowestFree, ← Fin.find?_eq_find?_finRange, Fin.find?_eq_some_iff,
    Option.isNone_iff_eq_none]
  simp only [Option.isNone_eq_false_iff]
  rfl

theorem Takes.clientKeeps {k : Kind} {lane : LaneId} {fs : List Field} {s t : State}
    (h : Takes k lane fs s t) : lane ≠ 0 → headOnly k = false → ClientKeeps lane s t := by
  intro client hk
  cases h with
  | unchanged => exact ClientKeeps.refl lane s
  | clearLinkErrors => exact absurd rfl client
  | emptyNotices => exact ClientKeeps.refl lane s
  | limit _ _ v =>
    exact ⟨rfl, rfl, rfl, rfl, rfl, rfl, rfl, rfl, rfl, rfl, rfl, rfl, rfl, rfl, rfl, rfl, rfl, rfl,
      fun _ other => upd_ne _ _ _ _ other, fun _ _ _ _ => ⟨rfl, rfl⟩⟩
  | enterRoute _ _ _ i r adjusted mode record quota space lowest =>
    refine ⟨rfl, rfl, rfl, rfl, rfl, rfl, rfl, rfl, rfl, rfl, rfl, rfl, rfl, rfl, rfl, rfl, rfl, rfl,
      fun _ _ => rfl, fun j q hq _ => ?_⟩
    have free := (RouteTable.lowestFree_law.mp lowest).1
    have other : j ≠ i := by
      rintro rfl
      rw [free] at hq
      cases hq
    exact ⟨upd_ne _ _ _ _ other, upd_ne _ _ _ _ other⟩
  | adjust _ _ _ i r a slot own => exact ClientKeeps.of_setRoute slot (own.resolve_right client) _
  | close _ _ _ i r cut slot own => exact ClientKeeps.of_setRoute slot (own.resolve_right client) _
  | report => exact ClientKeeps.refl lane s
  | stale => exact ClientKeeps.refl lane s
  | _ => cases hk

/-- Settles O53: a client lane's request is refused, or its owner is one of those that R183 opens to it. -/
theorem clientLanesCannotConfigure : Obligations.ClientLanesCannotConfigure := by
  intro k w s t client h
  show ClientKeeps w.lane s t
  by_cases null : k = .null
  · subst null
    cases h
    rcases s.takeWindow_cases (4 + w.body.length) with ⟨-, e⟩ | ⟨u, opens, e⟩ <;> rw [e]
    · exact ClientKeeps.of_quiet ⟨_, _, s.link.queue, s.link.overrun, rfl⟩
    · exact ClientKeeps.of_quiet opens.quiet
  · rw [exec_commandOf k w s null] at h
    cases h
    rcases s.request_quiet k w (ownerOf k) with quiet | ⟨fs, u, admits, e⟩
    · exact ClientKeeps.of_quiet quiet
    · have open_to_clients : headOnly k = false := by
        have allowed := admits.2.1
        simpa [permitted_eq, client] using allowed
      have keeps := (owner_takes k w.lane fs u).clientKeeps client open_to_clients
      rw [e]
      obtain ⟨_, _, _, _, rfl⟩ := admits.1.1.quiet
      exact keeps

end Sys2Proof.Machine
end

section
/-! PROOF. The ranges of the settings, and the Speed Monitor (O55): what power-on gives, what each writing
request keeps, and that nothing else touches them. -/
namespace Sys2Proof.Machine

/-! ### Power-on -/

theorem powerOn_cabinInv (lines : Lines) : CabinInv (State.powerOn lines) := by
  have level : -480 ≤ Cabin.reset.masterLevel ∧ Cabin.reset.masterLevel ≤ 0 := by decide
  refine ⟨fun sp => ?_, fun z => ?_, level⟩
  · have entry : (State.powerOn lines).cabin.speakers[sp] = SpeakerEntry.reset := replicate_get _ sp
    rw [entry]
    decide
  · have setting : (State.powerOn lines).cabin.zones[z] = ZoneSetting.reset := replicate_get _ z
    rw [setting]
    decide

theorem duckReset_range : ∀ a v : Fin 5, (Precedence.reset.duck[a])[v] ≤ 480 := by decide

theorem duckReset_alert : ∀ a : Fin 5, (Precedence.reset.duck[a])[RouteClass.alert.index] = 0 := by decide

theorem rampsReset_range : ∀ p : Fin 8,
    1 ≤ (rampsReset[p]).rise ∧ (rampsReset[p]).rise ≤ 480
      ∧ 1 ≤ (rampsReset[p]).fall ∧ (rampsReset[p]).fall ≤ 480 := by decide

theorem quotasReset_range : ∀ lane : LaneId, RouteTable.reset.quotas[lane] ≤ 32 := by decide

theorem powerOn_tablesInv (lines : Lines) : TablesInv (State.powerOn lines) :=
  ⟨fun a v => duckReset_range a.index v.index, fun a => duckReset_alert a.index, rampsReset_range,
    quotasReset_range⟩

theorem flatCurve_point (i : Fin 8) : flatCurve[i] = ⟨150 * i.val, 0⟩ := ofFn_get _ i

theorem powerOn_speedInv (lines : Lines) : SpeedInv (State.powerOn lines) := by
  have curve (c : Fin 4) : (State.powerOn lines).speed.curves[c] = flatCurve := replicate_get _ c
  have flat (i : Fin 8) : 150 * i.val ≤ 1200 ∧ (0 : Int) ≤ 0 ∧ (0 : Int) ≤ 72
      ∧ ∀ j : Fin 8, i < j → 150 * i.val < 150 * j.val := ⟨by omega, by decide, by decide, by omega⟩
  have monitor : SpeedMonitor.reset.reported ≤ 1200 ∧ SpeedMonitor.reset.effective ≤ 1200
      ∧ 100 ≤ SpeedMonitor.reset.staleTime ∧ SpeedMonitor.reset.staleTime ≤ 2000
      ∧ (SpeedMonitor.reset.freshness = .fresh ↔ SpeedMonitor.reset.staleTimer.isSome = true) := by decide
  obtain ⟨reported, effective, time_lo, time_hi, running⟩ := monitor
  refine ⟨reported, effective, time_lo, time_hi, running, nofun, fun c i => ?_⟩
  simp only [curve, flatCurve_point]
  exact flat i

/-! ### Requests -/

/-- An entry as LOAD_SPEAKER clamps it (R4). -/
theorem speakerEntryField_range {fs : List Field} {e : SpeakerEntry} {adjusted : Bool}
    (h : speakerEntryField fs = some (e, adjusted)) :
    -96 ≤ e.trim ∧ e.trim ≤ 0 ∧ e.threshold ≤ 96 ∧ 1 ≤ e.deglitch ∧ e.deglitch ≤ 64 := by
  unfold speakerEntryField at h
  split at h
  · next trim _ threshold deglitch _ =>
    simp only [Option.bind_eq_bind, Option.bind_eq_some_iff, Option.some.injEq, Prod.mk.injEq] at h
    obtain ⟨_, -, _, -, _, -, _, -, _, -, rfl, -⟩ := h
    have trim_range := clampTo_bounds (show (-96 : Int) ≤ 0 by decide) trim.toInt
    have threshold_range := clampNat_bounds (show 0 ≤ 96 by decide) threshold.toNat
    have deglitch_range := clampNat_bounds (show 1 ≤ 64 by decide) deglitch.toNat
    exact ⟨trim_range.1, trim_range.2, threshold_range.2, deglitch_range.1, deglitch_range.2⟩
  · cases h

/-- A setting's new value is in range: the clamped one where it is carried, else the old one. -/
theorem written_range {lo hi old : Int} (h : lo ≤ hi) (range : lo ≤ old ∧ old ≤ hi) (new : Option Int) :
    lo ≤ (match new with | some x => clampTo lo hi x | none => old)
      ∧ (match new with | some x => clampTo lo hi x | none => old) ≤ hi := by
  cases new with
  | none => exact range
  | some x => exact clampTo_bounds h x

/-- The ranges of a zone setting, as CabinInv states them. -/
theorem ZoneSetting.write_range {old : ZoneSetting}
    (h : -480 ≤ old.level ∧ old.level ≤ 0 ∧ -12 ≤ old.bass ∧ old.bass ≤ 12 ∧ -12 ≤ old.treble
      ∧ old.treble ≤ 12) (level : Option Int) (mute : Option Bool) (bass treble : Option Int)
    (curve : Option (Option (Fin 4))) :
    -480 ≤ (old.write level mute bass treble curve).level
      ∧ (old.write level mute bass treble curve).level ≤ 0
      ∧ -12 ≤ (old.write level mute bass treble curve).bass
      ∧ (old.write level mute bass treble curve).bass ≤ 12
      ∧ -12 ≤ (old.write level mute bass treble curve).treble
      ∧ (old.write level mute bass treble curve).treble ≤ 12 := by
  obtain ⟨level_lo, level_hi, bass_lo, bass_hi, treble_lo, treble_hi⟩ := h
  have new_level := written_range (by decide) ⟨level_lo, level_hi⟩ level
  have new_bass := written_range (by decide) ⟨bass_lo, bass_hi⟩ bass
  have new_treble := written_range (by decide) ⟨treble_lo, treble_hi⟩ treble
  exact ⟨new_level.1, new_level.2, new_bass.1, new_bass.2, new_treble.1, new_treble.2⟩

theorem Takes.keeps_cabinInv {k : Kind} {lane : LaneId} {fs : List Field} {s t : State}
    (h : Takes k lane fs s t) (hs : CabinInv s) : CabinInv t := by
  obtain ⟨speakers, zones, level_lo, level_hi⟩ := hs
  cases h with
  | master _ _ _ level _ _ range =>
    rcases range with rfl | range
    · exact ⟨speakers, zones, level_lo, level_hi⟩
    · exact ⟨speakers, zones, range⟩
  | zone _ _ _ z =>
    refine ⟨speakers, fun other => ?_, level_lo, level_hi⟩
    dsimp only
    rw [upd_get]
    split
    · exact ZoneSetting.write_range (zones other) _ _ _ _ _
    · exact zones other
  | speaker _ _ _ sp e adjusted _ entry =>
    refine ⟨fun other => ?_, zones, level_lo, level_hi⟩
    dsimp only [State.loadSpeaker]
    rw [upd_get]
    split
    · exact speakerEntryField_range entry
    · exact speakers other
  | _ => exact ⟨speakers, zones, level_lo, level_hi⟩

/-- A row as LOAD_DUCK writes it (R54). -/
theorem duckRow_range (media chime guide call : Nat) (v : RouteClass) :
    (#v[clampNat 0 480 media, clampNat 0 480 chime, clampNat 0 480 guide, clampNat 0 480 call, 0])[v.index]
      ≤ 480 := by
  have bound (x : Nat) := (clampNat_bounds (show 0 ≤ 480 by decide) x).2
  cases v with
  | media => exact bound media
  | chime => exact bound chime
  | guide => exact bound guide
  | call => exact bound call
  | alert => exact Nat.zero_le _

theorem Takes.keeps_tablesInv {k : Kind} {lane : LaneId} {fs : List Field} {s t : State}
    (h : Takes k lane fs s t) (hs : TablesInv s) : TablesInv t := by
  obtain ⟨duck, alert, ramps, quotas⟩ := hs
  cases h with
  | duck _ _ _ cls media chime guide call =>
    refine ⟨fun a v => ?_, fun a => ?_, ramps, quotas⟩
    · dsimp only
      rw [upd_get]
      split
      · exact duckRow_range media chime guide call v
      · exact duck a v
    · dsimp only
      rw [upd_get]
      split
      · rfl
      · exact alert a
  | ramp _ _ _ p rise fall =>
    refine ⟨duck, alert, fun q => ?_, quotas⟩
    dsimp only
    rw [upd_get]
    split
    · have rise_range := clampNat_bounds (show 1 ≤ 480 by decide) rise
      have fall_range := clampNat_bounds (show 1 ≤ 480 by decide) fall
      dsimp only
      omega
    · exact ramps q
  | quota _ _ _ owner q =>
    refine ⟨duck, alert, ramps, fun other => ?_⟩
    dsimp only
    rw [upd_get]
    split
    · exact (clampNat_bounds (show 0 ≤ 32 by decide) q).2
    · exact quotas other
  | _ => exact ⟨duck, alert, ramps, quotas⟩

/-- A curve as LOAD_CURVE writes it: loadable points, their gains clamped (R79, R80). -/
theorem loadedCurve_sound {p : Fin 8 → CurvePoint} (loadable : LoadablePoints p) (i : Fin 8) :
    (p i).speed ≤ 1200 ∧ 0 ≤ clampTo 0 72 (p i).gain ∧ clampTo 0 72 (p i).gain ≤ 72
      ∧ ∀ j : Fin 8, i < j → (p i).speed < (p j).speed := by
  obtain ⟨bounded, rising⟩ := loadable
  have gain := clampTo_bounds (show (0 : Int) ≤ 72 by decide) (p i).gain
  exact ⟨bounded i, gain.1, gain.2, rising i⟩

theorem Takes.keeps_speedInv {k : Kind} {lane : LaneId} {fs : List Field} {s t : State}
    (h : Takes k lane fs s t) (hs : SpeedInv s) : SpeedInv t := by
  obtain ⟨reported, effective, time_lo, time_hi, running, timer, curves⟩ := hs
  cases h with
  | report _ _ _ v =>
    have clamped := (clampNat_bounds (show 0 ≤ 1200 by decide) v).2
    refine ⟨clamped, effective, time_lo, time_hi, by simp, fun n hn => ?_, curves⟩
    cases hn
    omega
  | stale => exact ⟨reported, effective, time_lo, time_hi, by simp, nofun, curves⟩
  | staleTime _ _ _ v =>
    have clamped := clampNat_bounds (show 100 ≤ 2000 by decide) v
    exact ⟨reported, effective, clamped.1, clamped.2, running, timer, curves⟩
  | curve _ _ _ c p loadable =>
    refine ⟨reported, effective, time_lo, time_hi, running, timer, fun other => ?_⟩
    dsimp only
    rw [upd_get]
    split
    · simp only [ofFn_get]
      exact loadedCurve_sound loadable
    · exact curves other
  | _ => exact ⟨reported, effective, time_lo, time_hi, running, timer, curves⟩

/-! ### Events -/

theorem SettingsBy.cabinInv {s t : State} (h : SettingsBy none s t) (hs : CabinInv s) : CabinInv t := by
  have speakers := h.speakers.resolve_right nofun
  have zones := h.zones.resolve_right nofun
  have level := h.level.resolve_right nofun
  rw [CabinInv, speakers, zones, level]
  exact hs

theorem SettingsBy.tablesInv {s t : State} (h : SettingsBy none s t) (hs : TablesInv s) : TablesInv t := by
  have duck := h.duck.resolve_right nofun
  have ramps := h.ramps.resolve_right nofun
  have quotas := h.quotas.resolve_right nofun
  rw [TablesInv, duck, ramps, quotas]
  exact hs

/-- An event is a reset, or touches no setting. -/
theorem Event.reset_or_settings {c : Instr} {s t : State} (h : Event c s t) :
    (∃ lines pending free window, t = { State.powerOn lines with
      pending := pending, free := free, link := { (State.powerOn lines).link with window := window } })
    ∨ SettingsBy none s t := by
  by_cases reset : ∃ lines, c = .powerOn lines ∨ c = .rstNRelease lines
  · obtain ⟨lines, rfl | rfl⟩ := reset
    · cases h with
      | powerOn => exact .inl ⟨lines, _, _, .idle, rfl⟩
      | idle => exact .inr {}
      | wakeLine => exact .inr {}
      | fsyncEdge => exact .inr {}
    · cases h with
      | rstNRelease => exact .inl ⟨lines, _, _, _, rfl⟩
      | idle => exact .inr {}
      | wakeLine => exact .inr {}
      | fsyncEdge => exact .inr {}
  · exact .inr (h.settings fun lines => ⟨fun e => reset ⟨lines, .inl e⟩, fun e => reset ⟨lines, .inr e⟩⟩)

theorem Event.keeps_cabinInv {c : Instr} {s t : State} (h : Event c s t) (hs : CabinInv s) : CabinInv t := by
  rcases h.reset_or_settings with ⟨lines, _, _, _, rfl⟩ | settings
  · exact powerOn_cabinInv lines
  · exact settings.cabinInv hs

theorem Event.keeps_tablesInv {c : Instr} {s t : State} (h : Event c s t) (hs : TablesInv s) :
    TablesInv t := by
  rcases h.reset_or_settings with ⟨lines, _, _, _, rfl⟩ | settings
  · exact powerOn_tablesInv lines
  · exact settings.tablesInv hs

theorem slewed_range {effective reported bound : Nat} (he : effective ≤ bound) (hr : reported ≤ bound) :
    slewed effective reported ≤ bound := by
  unfold slewed
  split_ifs <;> omega

theorem State.goStale_keeps_speedInv {s : State} (hs : SpeedInv s) : SpeedInv s.goStale := by
  obtain ⟨reported, effective, time_lo, time_hi, -, -, curves⟩ := hs
  obtain ⟨_, e⟩ := s.goStale_frame
  rw [e]
  exact ⟨reported, effective, time_lo, time_hi, by simp, nofun, curves⟩

/-- The millisecond event slews within the range, and a timer that runs on stays above 0 (R76). -/
theorem State.speedMillisecond_keeps_speedInv {s : State} (hs : SpeedInv s) :
    SpeedInv s.speedMillisecond := by
  obtain ⟨reported, effective, time_lo, time_hi, running, timer, curves⟩ := hs
  have slewed_effective :
      (if s.speed.freshness = .fresh then slewed s.speed.effective s.speed.reported
        else s.speed.effective) ≤ 1200 := by
    split
    · exact slewed_range effective reported
    · exact effective
  unfold State.speedMillisecond
  dsimp only
  split
  · exact State.goStale_keeps_speedInv
      ⟨reported, slewed_effective, time_lo, time_hi, running, timer, curves⟩
  · next runs_on =>
    rcases countDown_cases s.speed.staleTimer with ⟨stopped, e, -⟩ | ⟨_, -, -, -, expires⟩ | ⟨n, at_n, above, e, -⟩
    · rw [e, ← stopped]
      exact ⟨reported, slewed_effective, time_lo, time_hi, running, timer, curves⟩
    · exact absurd expires runs_on
    · rw [e]
      have in_range := timer n at_n
      refine ⟨reported, slewed_effective, time_lo, time_hi, ?_, fun m hm => ?_, curves⟩
      · simp only [running, at_n, Option.isSome_some]
      · cases hm
        omega

theorem Event.keeps_speedInv {c : Instr} {s t : State} (h : Event c s t) (hs : SpeedInv s) : SpeedInv t := by
  have ⟨reported, effective, time_lo, time_hi, running, timer, curves⟩ := hs
  have stopped : Freshness.stale = .fresh ↔ (none : Option Nat).isSome = true := by simp
  cases h with
  | powerOn lines => exact powerOn_speedInv lines
  | rstNRelease lines => exact powerOn_speedInv lines
  | standby => exact ⟨Nat.zero_le _, Nat.zero_le _, time_lo, time_hi, stopped, nofun, curves⟩
  | speedMillisecond _ _ _ _ _ counted => exact counted ▸ State.speedMillisecond_keeps_speedInv hs
  | staleExpiry => exact ⟨reported, effective, time_lo, time_hi, stopped, nofun, curves⟩
  | frame _ _ _ _ only =>
    obtain ⟨_, _, _, _, _, _, _, _, _, rfl, -⟩ := only
    exact hs
  | overload _ _ _ _ _ _ only =>
    obtain ⟨_, _, _, _, _, _, _, _, _, rfl, -⟩ := only
    exact hs
  | _ => exact ⟨reported, effective, time_lo, time_hi, running, timer, curves⟩

theorem step_keeps_cabinInv {s t : State} (h : step s = .next t) (hs : CabinInv s) : CabinInv t :=
  step_keeps (fun _ _ h => h) (exec_keeps (fun _ _ h => h) Takes.keeps_cabinInv Event.keeps_cabinInv) h hs

theorem step_keeps_tablesInv {s t : State} (h : step s = .next t) (hs : TablesInv s) : TablesInv t :=
  step_keeps (fun _ _ h => h) (exec_keeps (fun _ _ h => h) Takes.keeps_tablesInv Event.keeps_tablesInv) h hs

theorem step_keeps_speedInv {s t : State} (h : step s = .next t) (hs : SpeedInv s) : SpeedInv t :=
  step_keeps (fun _ _ h => h) (exec_keeps (fun _ _ h => h) Takes.keeps_speedInv Event.keeps_speedInv) h hs

/-- Settles O55. -/
theorem settingsAndSpeedStayInRange : Obligations.SettingsAndSpeedStayInRange :=
  ⟨fun _ _ cabin tables h => ⟨step_keeps_cabinInv h cabin, step_keeps_tablesInv h tables⟩,
    fun _ _ speed h => step_keeps_speedInv h speed⟩

end Sys2Proof.Machine
end

section
/-! SUPPORT. Answers cut to whole items (R186), and what a packet leaves in the link, said once. -/
namespace Sys2Proof.Machine

/-- The cut takes the first items that fit whole, and leaves one out exactly where the next would not
fit (R186). -/
theorem cutItems_law (items : List (List Byte)) (room : Nat) :
    ∃ n, n ≤ items.length
      ∧ cutItems room items = ((items.take n).flatten, decide (n < items.length))
      ∧ (items.take n).flatten.length ≤ room
      ∧ (n < items.length → room < (items.take (n + 1)).flatten.length) := by
  induction items generalizing room with
  | nil => exact ⟨0, Nat.le_refl _, rfl, Nat.zero_le _, nofun⟩
  | cons item rest ih =>
    by_cases fits : item.length ≤ room
    · obtain ⟨n, bound, cut, within, next⟩ := ih (room - item.length)
      refine ⟨n + 1, Nat.succ_le_succ bound, ?_, ?_, fun more => ?_⟩
      · simp only [cutItems, if_pos fits, cut, List.take_succ_cons, List.flatten_cons, List.length_cons,
          Nat.add_lt_add_iff_right]
      · simp only [List.take_succ_cons, List.flatten_cons, List.length_append]
        omega
      · have beyond := next (by simpa using more)
        simp only [List.take_succ_cons, List.flatten_cons, List.length_append] at beyond ⊢
        omega
    · refine ⟨0, Nat.zero_le _, ?_, Nat.zero_le _, fun _ => ?_⟩
      · simp [cutItems, fits]
      · simpa using fits

/-- The payload of an answer: its first items, TRUNC where one is left out, within the limit (R186). -/
theorem Answer.payload_law (a : Answer) {limit : Nat} (h : 2 ≤ limit) :
    ∃ n, n ≤ a.items.length
      ∧ a.payload limit = a.result.code :: flagByte (decide (n < a.items.length)) :: (a.items.take n).flatten
      ∧ (a.payload limit).length ≤ limit
      ∧ (n < a.items.length → limit < 2 + (a.items.take (n + 1)).flatten.length) := by
  obtain ⟨n, bound, cut, within, next⟩ := cutItems_law a.items (limit - 2)
  have payload : a.payload limit =
      a.result.code :: flagByte (decide (n < a.items.length)) :: (a.items.take n).flatten := by
    rw [Answer.payload, cut]
  refine ⟨n, bound, payload, ?_, fun more => ?_⟩
  · rw [payload, List.length_cons, List.length_cons]
    omega
  · have beyond := next more
    omega

theorem Answer.payload_length {a : Answer} {limit : Nat} (lo : 8 ≤ limit) (hi : limit ≤ 508) :
    2 ≤ (a.payload limit).length ∧ (a.payload limit).length ≤ 508 := by
  obtain ⟨n, -, payload, within, -⟩ := a.payload_law (show 2 ≤ limit by omega)
  refine ⟨?_, by omega⟩
  rw [payload, List.length_cons, List.length_cons]
  omega

/-- What a packet taken in this state leaves. -/
inductive PacketOutcome (u : State) : State → Prop
  | nothing : PacketOutcome u u
  | captured (sdi : List Byte) : PacketOutcome u (u.captureFault sdi)
  | overrun : PacketOutcome u u.overrun
  | refused (lane : LaneId) (code : BitVec 6) (r : Result) (room : u.link.queue.length < 8) :
      PacketOutcome u
        { u with link := { u.link with queue := u.link.queue ++ [⟨lane, code, dataless r⟩] } }
  | owner (k : Kind) (lane : LaneId) (fs : List Field) (room : u.link.queue.length < 8) :
      PacketOutcome u
        ((ownerOf k lane fs u).1.answer lane k.code u.link.limits[lane] (ownerOf k lane fs u).2)

theorem State.handle_outcome (u : State) (k : Kind) (w : Window) : PacketOutcome u (u.handle k w (ownerOf k)) := by
  rcases u.handle_cases k w (ownerOf k) with e | ⟨r, room, e⟩ | ⟨fs, room, -, -, -, e⟩ <;> rw [e]
  · exact .overrun
  · exact .refused w.lane k.code r room
  · exact .owner k w.lane fs room

theorem State.handlePacket_outcome (u : State) (code : BitVec 6) (w : Window) :
    PacketOutcome u (u.handlePacket code w) := by
  unfold State.handlePacket
  split
  · unfold State.handleUnknown
    split
    · exact .overrun
    · next room =>
      rw [State.answer_eq, Answer.payload_plain]
      exact .refused w.lane code _ (Nat.not_le.mp room)
  · exact .nothing
  · exact u.handle_outcome _ w

/-- A packet command drops its window, or its packet has one of these outcomes in it. -/
theorem packet_outcome {c : Instr} (hc : isPacket c = true) {s t : State} (h : exec c s = .next t) :
    t = s.dropWindow ∨ ∃ n u, Opens s n u ∧ PacketOutcome u t := by
  have window {n : Nat} {p : State → State} (hp : ∀ u, PacketOutcome u (p u)) (e : t = s.takeWindow n p) :
      t = s.dropWindow ∨ ∃ n u, Opens s n u ∧ PacketOutcome u t := by
    rcases s.takeWindow_cases n with ⟨-, taken⟩ | ⟨u, opens, taken⟩
    · exact .inl (by rw [e, taken])
    · exact .inr ⟨n, u, opens, by rw [e, taken]; exact hp u⟩
  rcases packet_request hc s with ⟨w, -, e⟩ | ⟨sdi, rfl⟩ | ⟨code, w, rfl⟩ | ⟨k, w, -, -, e⟩
  · rw [e] at h
    cases h
    exact window (fun _ => .nothing) rfl
  · cases h
    refine window (fun u => ?_) rfl
    unfold State.handleBytes
    split
    · exact .captured sdi
    · exact u.handlePacket_outcome _ _
  · cases h
    exact window (fun u => u.handlePacket_outcome code w) rfl
  · rw [e] at h
    cases h
    exact window (fun u => u.handle_outcome k w) rfl

end Sys2Proof.Machine
end

section
/-! PROOF. The Link Interface and the Mode Controller stay sound (O59). -/
namespace Sys2Proof.Machine

theorem linkReset_limits (lane : LaneId) : Link.reset.limits[lane] = 64 := replicate_get _ lane

theorem powerOn_linkInv (lines : Lines) : LinkInv (State.powerOn lines) := by
  refine ⟨Nat.zero_le _, nofun, fun lane => ?_, by simp [State.powerOn, Link.reset], nofun, fun _ => rfl,
    Nat.zero_le _⟩
  have limit : (State.powerOn lines).link.limits[lane] = 64 := linkReset_limits lane
  omega

theorem Opens.keeps_linkInv {s u : State} {n : Nat} (h : Opens s n u) (hs : LinkInv s) : LinkInv u := by
  obtain ⟨length, payloads, rest⟩ := hs
  rcases h.queue with e | e
  · rw [h.frame, e]
    exact ⟨length, payloads, rest⟩
  · rw [h.frame, e]
    refine ⟨?_, fun r hr => payloads r (List.mem_of_mem_tail hr), rest⟩
    dsimp only
    rw [List.length_tail]
    omega

/-- No owner touches the queue, and each leaves the link sound. -/
theorem Takes.keeps_linkInv {k : Kind} {lane : LaneId} {fs : List Field} {s t : State}
    (h : Takes k lane fs s t) (hs : LinkInv s) : t.link.queue = s.link.queue ∧ LinkInv t := by
  obtain ⟨length, payloads, limits, linkErr, capture, later, later_bound⟩ := hs
  cases h with
  | clearLinkErrors =>
    exact ⟨rfl, length, payloads, limits, by simp [State.clearLinkErrors], nofun, fun _ => rfl, Nat.zero_le _⟩
  | limit _ _ v =>
    refine ⟨rfl, length, payloads, fun other => ?_, linkErr, capture, later, later_bound⟩
    dsimp only
    rw [upd_get]
    split
    · exact clampNat_bounds (by decide) v
    · exact limits other
  | _ => exact ⟨rfl, length, payloads, limits, linkErr, capture, later, later_bound⟩

theorem LinkInv.queue_append {s : State} (hs : LinkInv s) (room : s.link.queue.length < 8) {r : Response}
    (lo : 2 ≤ r.payload.length) (hi : r.payload.length ≤ 508) :
    LinkInv { s with link := { s.link with queue := s.link.queue ++ [r] } } := by
  obtain ⟨-, payloads, rest⟩ := hs
  refine ⟨?_, fun q hq => ?_, rest⟩
  · dsimp only
    rw [List.length_append, List.length_singleton]
    omega
  · rcases List.mem_append.mp hq with hq | hq
    · exact payloads q hq
    · obtain rfl := List.mem_singleton.mp hq
      exact ⟨lo, hi⟩

theorem State.captureFault_keeps_linkInv {s : State} (hs : LinkInv s) (sdi : List Byte) :
    LinkInv (s.captureFault sdi) := by
  obtain ⟨length, payloads, limits, -, capture, later, later_bound⟩ := hs
  unfold State.captureFault
  split
  · next empty =>
    refine ⟨length, payloads, limits, by simp, fun bs hbs => ?_, nofun, later_bound⟩
    cases hbs
    rw [List.length_take]
    exact Nat.min_le_left _ _
  · next bs held =>
    refine ⟨length, payloads, limits, by simp [held], capture, fun empty => ?_, ?_⟩
    · rw [held] at empty
      cases empty
    · dsimp only
      split <;> omega

theorem PacketOutcome.keeps_linkInv {u t : State} (h : PacketOutcome u t) (hu : LinkInv u) : LinkInv t := by
  cases h with
  | nothing => exact hu
  | captured sdi => exact State.captureFault_keeps_linkInv hu sdi
  | overrun => exact hu
  | refused lane code r room => exact hu.queue_append room (Nat.le_refl 2) (show 2 ≤ 508 by decide)
  | owner k lane fs room =>
    obtain ⟨lo, hi⟩ := hu.2.2.1 lane
    obtain ⟨queue, owned⟩ := (owner_takes k lane fs u).keeps_linkInv hu
    obtain ⟨payload_lo, payload_hi⟩ := Answer.payload_length (a := (ownerOf k lane fs u).2) lo hi
    rw [State.answer_eq]
    exact owned.queue_append (queue ▸ room) payload_lo payload_hi

theorem Event.keeps_linkInv {c : Instr} {s t : State} (h : Event c s t) (hs : LinkInv s) : LinkInv t := by
  have ⟨length, payloads, limits, linkErr, capture, later, later_bound⟩ := hs
  cases h with
  | powerOn lines => exact powerOn_linkInv lines
  | rstNRelease lines => exact powerOn_linkInv lines
  | standby crank awarn =>
    obtain ⟨-, -, -, reset⟩ := powerOn_linkInv ⟨true, crank, awarn⟩
    exact ⟨Nat.zero_le _, nofun, limits, reset⟩
  | frame _ _ _ _ only =>
    obtain ⟨_, _, _, _, _, _, _, _, _, rfl, -⟩ := only
    exact hs
  | overload _ _ _ _ _ _ only =>
    obtain ⟨_, _, _, _, _, _, _, _, _, rfl, -⟩ := only
    exact hs
  | _ => exact ⟨length, payloads, limits, linkErr, capture, later, later_bound⟩

theorem exec_keeps_linkInv {c : Instr} {s t : State} (h : exec c s = .next t) (hs : LinkInv s) :
    LinkInv t := by
  cases hc : isPacket c with
  | false => exact (exec_event hc h).keeps_linkInv hs
  | true =>
    rcases packet_outcome hc h with rfl | ⟨n, u, opens, outcome⟩
    · exact hs
    · exact outcome.keeps_linkInv (opens.keeps_linkInv hs)

/-! ### The Mode Controller and the tone walk -/

theorem powerOn_modeInv (lines : Lines) : ModeInv (State.powerOn lines) := by
  refine ⟨nofun, nofun, nofun, ?_, fun _ => rfl, fun sp => ?_⟩
  · show 300 ≤ 2000
    decide
  · have speaker : ((State.powerOn lines).eq.speakers[sp]).walk = none := by
      show SpeakerEq.walk (Vector.replicate 24 _)[sp] = none
      rw [replicate_get]
    rw [speaker]
    simp [State.powerOn, ModeControl.reset]

theorem Takes.keeps_modeInv {k : Kind} {lane : LaneId} {fs : List Field} {s t : State}
    (h : Takes k lane fs s t) (hs : ModeInv s) : ModeInv t := by
  obtain ⟨host, crank, timer, delay, wakeUp, walk⟩ := hs
  cases h with
  | run _ _ _ _ mode =>
    refine ⟨fun _ => .inl rfl, crank, timer, delay, fun h => ?_, fun sp => ?_⟩
    · have standby := wakeUp h
      rw [mode] at standby
      cases standby
    · have awake := walk sp
      rw [mode] at awake
      simpa using awake
  | leave _ _ _ _ running mode now slots _ ends =>
    have awake (sp : SpeakerId) : ((s.eq.speakers[sp]).walk.isSome = true ↔ mode ≠ .standby) := by
      have was := walk sp
      rw [running] at was
      rcases ends with ⟨rfl, -⟩ | ⟨-, rfl, -⟩ <;> simpa using was
    refine ⟨fun h => ?_, crank, timer, delay, fun h => ?_, awake⟩
    · rcases ends with ⟨rfl, -⟩ | ⟨-, -, rfl, -⟩
      · exact .inr rfl
      · cases h
    · have standby := wakeUp h
      rw [running] at standby
      cases standby
  | host _ _ _ present mode => exact ⟨fun _ => mode, crank, timer, delay, wakeUp, walk⟩
  | crankDelay _ _ _ v =>
    exact ⟨host, crank, timer, (clampNat_bounds (show 0 ≤ 2000 by decide) v).2, wakeUp, walk⟩
  | voicing _ _ _ sp =>
    refine ⟨host, crank, timer, delay, wakeUp, fun other => ?_⟩
    dsimp only
    rw [upd_get]
    split <;> exact walk other
  | _ => exact ⟨host, crank, timer, delay, wakeUp, walk⟩

theorem StatesOnly.walk {a b : Vector SpeakerEq 24} (h : StatesOnly a b) (sp : SpeakerId) :
    (b[sp]).walk = (a[sp]).walk := by rw [h sp]

theorem State.walked_walk (s : State) (sp : SpeakerId) :
    (s.walked sp).walk.isSome = (s.eq.speakers[sp]).walk.isSome := by
  unfold State.walked
  dsimp only
  split
  · next running => rw [running, Option.isSome_some]
  · rfl

/-- The part of ModeInv that the end of LEAVING touches, kept by it: neither LEAVING nor SETUP is STANDBY. -/
theorem ModeInv.of_leavingMayEnd {s : State} (hs : ModeInv s) {slots : Vector Slot 32} {mode : Mode}
    {host : Bool} (ends : LeavingMayEnd s.ctl slots mode host) :
    ModeInv { s with ctl := { s.ctl with mode := mode, host := host } } := by
  have ⟨stands, crank, timer, delay, wakeUp, walk⟩ := hs
  rcases ends with ⟨rfl, rfl⟩ | ⟨leaving, rfl, rfl, -⟩
  · exact hs
  · refine ⟨nofun, crank, timer, delay, fun h => ?_, fun sp => ?_⟩
    · have standby := wakeUp h
      rw [leaving] at standby
      cases standby
    · have awake := walk sp
      rw [leaving] at awake
      simpa using awake

/-- The crank release timer after the Mode Controller's millisecond event (R173). -/
theorem ModeControl.crankMillisecond_sound {c : ModeControl} (crank : c.crankTimer.isSome = true → c.crank = true)
    (timer : ∀ n, c.crankTimer = some n → 1 ≤ n ∧ n ≤ 2000) (delay : c.crankDelay ≤ 2000) (asserted : Bool) :
    ((c.crankMillisecond asserted).crankTimer.isSome = true → (c.crankMillisecond asserted).crank = true)
      ∧ ∀ n, (c.crankMillisecond asserted).crankTimer = some n → 1 ≤ n ∧ n ≤ 2000 := by
  have counted : (c.countCrank.crankTimer.isSome = true → c.countCrank.crank = true)
      ∧ ∀ n, c.countCrank.crankTimer = some n → 1 ≤ n ∧ n ≤ 2000 := by
    unfold ModeControl.countCrank
    rcases countDown_cases c.crankTimer with ⟨-, e, expires⟩ | ⟨n, -, -, -, expires⟩ | ⟨n, at_n, above, e, expires⟩
    · rw [expires, if_neg Bool.false_ne_true, e]
      exact ⟨nofun, nofun⟩
    · rw [expires, if_pos rfl]
      exact ⟨nofun, nofun⟩
    · rw [expires, if_neg Bool.false_ne_true, e]
      have in_range := timer n at_n
      refine ⟨fun _ => crank (by rw [at_n, Option.isSome_some]), fun m hm => ?_⟩
      cases hm
      omega
  unfold ModeControl.crankMillisecond
  split
  · exact ⟨nofun, nofun⟩
  · exact ⟨nofun, nofun⟩
  · next present stopped =>
    split
    · rw [stopped]
      exact ⟨nofun, nofun⟩
    · refine ⟨fun _ => present, fun n hn => ?_⟩
      cases hn
      omega
  all_goals exact counted

theorem Event.keeps_modeInv {c : Instr} {s t : State} (h : Event c s t) (hs : ModeInv s) : ModeInv t := by
  have ⟨host, crank, timer, delay, wakeUp, walk⟩ := hs
  cases h with
  | powerOn lines => exact powerOn_modeInv lines
  | rstNRelease lines => exact powerOn_modeInv lines
  | wakeLine _ _ _ _ low =>
    refine ⟨host, crank, timer, delay, fun h => ?_, walk⟩
    rcases low with rfl | rfl | standby
    · exact wakeUp h
    · cases h
    · exact standby
  | standby =>
    refine ⟨nofun, nofun, nofun, delay, nofun, fun sp => ?_⟩
    simp only [State.enterStandby, Equaliser.standby, ofFn_get]
    simp
  | wakeUpEnds _ mode =>
    refine ⟨fun h => ?_, crank, timer, delay, nofun, fun sp => ?_⟩
    · have stands := host h
      rw [mode] at stands
      rcases stands with e | e <;> cases e
    · simp only [State.raise, ofFn_get]
      simp
  | leavingEnds _ _ _ _ ends => exact hs.of_leavingMayEnd ends
  | passReport _ _ _ _ _ _ _ ends => exact hs.of_leavingMayEnd ends
  | pass _ _ _ _ _ _ _ _ _ _ _ ends => exact hs.of_leavingMayEnd ends
  | toneWalk =>
    refine ⟨host, crank, timer, delay, wakeUp, fun sp => ?_⟩
    simp only [ofFn_get, State.walked_walk]
    exact walk sp
  | frame _ _ _ _ only =>
    obtain ⟨_, _, _, _, _, _, _, _, _, rfl, same⟩ := only
    exact ⟨host, crank, timer, delay, wakeUp, fun sp => (same.walk sp).symm ▸ walk sp⟩
  | overload _ _ _ _ _ _ only =>
    obtain ⟨_, _, _, _, _, _, _, _, _, rfl, same⟩ := only
    exact ⟨host, crank, timer, delay, wakeUp, fun sp => (same.walk sp).symm ▸ walk sp⟩
  | crankSample asserted _ _ _ counted =>
    have sound := ModeControl.crankMillisecond_sound crank timer delay asserted
    rw [counted] at sound
    exact ⟨host, sound.1, sound.2, delay, wakeUp, walk⟩
  | crankExpiry => exact ⟨host, nofun, nofun, delay, wakeUp, walk⟩
  | _ => exact ⟨host, crank, timer, delay, wakeUp, walk⟩

/-- Settles O59: the link by what a packet can leave in it, the Mode Controller by the lists of changes. -/
theorem linkAndModeControllerStaySound : Obligations.LinkAndModeControllerStaySound :=
  ⟨fun _ _ link h => step_keeps (fun _ _ h => h) exec_keeps_linkInv h link,
    fun _ _ mode h =>
      step_keeps (fun _ _ h => h) (exec_keeps (fun _ _ h => h) Takes.keeps_modeInv Event.keeps_modeInv) h mode⟩

end Sys2Proof.Machine
end

section
/-! PROOF. The Route Table under every command: its records apart from the mode, the two ways in which the
table changes (routes revised or freed, and one route entered), and what the modes ask of it. -/
namespace Sys2Proof.Machine

/-- What TableInv says of the table whatever the mode. -/
def TableRecords (s : State) : Prop :=
  s.table.order.Nodup
  ∧ (∀ i : SlotId, i ∈ s.table.order ↔ (s.routeAt i).isSome = true)
  ∧ (∀ (i : SlotId) (r : Route), s.routeAt i = some r → (s.handleAt i).gen ≠ 0#8 ∧ r.sound)
  ∧ (∀ lane : LaneId,
      s.table.slots.toList.countP (fun slot => slot.route.any fun r => decide (r.owner = lane))
        ≤ s.table.quotas[lane])
  ∧ s.table.slots.toList.countP (fun slot => slot.route.any fun r => decide (r.cls ≠ .alert)) ≤ 30
  ∧ (∀ i : SlotId, s.prec.spill[i] = true → ∃ r, s.routeAt i = some r ∧ r.cls = .alert)

/-- What TableInv says of the table by the mode. -/
def TableModes (s : State) : Prop :=
  (s.ctl.mode = .standby ∨ s.ctl.mode = .setup → ∀ i : SlotId, s.routeAt i = none)
  ∧ (s.ctl.mode = .leaving →
      (∃ i : SlotId, (s.routeAt i).isSome = true)
      ∧ ∀ (i : SlotId) (r : Route), s.routeAt i = some r → r.state = .closing)

theorem tableInv_iff (s : State) : TableInv s ↔ TableRecords s ∧ TableModes s := by
  simp only [TableInv, TableRecords, TableModes, and_assoc]

/-- The invariant reads the table, the spill flags and the mode alone. -/
theorem TableInv.congr {s t : State} (table : t.table = s.table) (spill : t.prec.spill = s.prec.spill)
    (mode : t.ctl.mode = s.ctl.mode) (hs : TableInv s) : TableInv t := by
  have same : TableInv t = TableInv s := by
    simp only [TableInv, State.routeAt, State.handleAt, table, spill, mode]
  exact same ▸ hs

/-! ### Routes revised or freed -/

/-- The table of t is that of s with some routes freed and the others' records revised, owner and class
kept. -/
structure Thinned (s t : State) : Prop where
  order : t.table.order.Sublist s.table.order
  listed : ∀ i : SlotId, i ∈ t.table.order ↔ (t.routeAt i).isSome = true
  gen : ∀ i : SlotId, (t.table.slots[i]).gen = (s.table.slots[i]).gen
  route : ∀ (i : SlotId) (r' : Route), t.routeAt i = some r' →
    ∃ r, s.routeAt i = some r ∧ r'.owner = r.owner ∧ r'.cls = r.cls ∧ r'.sound
  quotas : t.table.quotas = s.table.quotas
  spill : ∀ i : SlotId, t.prec.spill[i] = true → ∃ r, t.routeAt i = some r ∧ r.cls = .alert

/-- Where every slot counted in b is counted in a, a holds at least as many. -/
theorem countP_toList_le {α : Type} {n : Nat} {a b : Vector α n} {p : α → Bool}
    (h : ∀ i : Fin n, p b[i] = true → p a[i] = true) : b.toList.countP p ≤ a.toList.countP p := by
  rw [toList_eq_map, toList_eq_map, List.countP_map, List.countP_map]
  exact List.countP_mono_left fun i _ => h i

theorem Thinned.tableRecords {s t : State} (h : Thinned s t) (hs : TableRecords s) : TableRecords t := by
  obtain ⟨nodup, -, sound, quota, reserve, -⟩ := hs
  have counted (p : Route → Bool)
      (kept : ∀ r r' : Route, r'.owner = r.owner → r'.cls = r.cls → p r' = p r) :
      t.table.slots.toList.countP (fun slot => slot.route.any p)
        ≤ s.table.slots.toList.countP (fun slot => slot.route.any p) := by
    refine countP_toList_le fun i hi => ?_
    obtain ⟨r', hr', hp⟩ := (Option.any_eq_true _ _).mp hi
    obtain ⟨r, hr, owner, cls, -⟩ := h.route i r' hr'
    have hr : (s.table.slots[i]).route = some r := hr
    rw [hr, Option.any_some, ← kept r r' owner cls, hp]
  refine ⟨nodup.sublist h.order, h.listed, fun i r' hr' => ?_, fun lane => ?_, ?_, h.spill⟩
  · obtain ⟨r, hr, -, -, sound'⟩ := h.route i r' hr'
    exact ⟨(h.gen i).trans_ne (sound i r hr).1, sound'⟩
  · rw [h.quotas]
    exact (counted _ fun r r' owner _ => by rw [owner]).trans (quota lane)
  · exact (counted _ fun r r' _ cls => by rw [cls]).trans reserve

/-- Routes revised in their slots, none freed. -/
theorem Thinned.of_revised {s t : State} (hs : TableRecords s) (order : t.table.order = s.table.order)
    (gen : ∀ i : SlotId, (t.table.slots[i]).gen = (s.table.slots[i]).gen)
    (quotas : t.table.quotas = s.table.quotas) (spill : t.prec.spill = s.prec.spill)
    (route : ∀ i : SlotId, (s.routeAt i = none ∧ t.routeAt i = none)
      ∨ ∃ r r', s.routeAt i = some r ∧ t.routeAt i = some r' ∧ r'.owner = r.owner ∧ r'.cls = r.cls
        ∧ r'.sound) : Thinned s t := by
  obtain ⟨-, listed, -, -, -, spilled⟩ := hs
  refine ⟨order ▸ List.Sublist.refl _, fun i => ?_, gen, fun i r' hr' => ?_, quotas, fun i hi => ?_⟩
  · rw [order, listed]
    rcases route i with ⟨e, e'⟩ | ⟨r, r', e, e', -⟩ <;> rw [e, e']
    rfl
  · rcases route i with ⟨e, e'⟩ | ⟨r, r'', e, e', same⟩
    · rw [e'] at hr'
      cases hr'
    · rw [e'] at hr'
      cases hr'
      exact ⟨r, e, same⟩
  · rw [spill] at hi
    obtain ⟨r, hr, alert⟩ := spilled i hi
    rcases route i with ⟨e, e'⟩ | ⟨q, r', e, e', -, cls, -⟩
    · rw [e] at hr
      cases hr
    · rw [e] at hr
      cases hr
      exact ⟨r', e', cls.trans alert⟩

/-- One route revised in its slot. -/
theorem Thinned.setRoute {s : State} (hs : TableRecords s) {i : SlotId} {r r' : Route}
    (slot : s.routeAt i = some r) (owner : r'.owner = r.owner) (cls : r'.cls = r.cls) (sound : r'.sound) :
    Thinned s (s.setRoute i (some r')) := by
  obtain ⟨-, -, sounds, -⟩ := id hs
  refine Thinned.of_revised hs rfl (fun j => congrArg Handle.gen (s.setRoute_handleAt i j (some r'))) rfl
    rfl fun j => ?_
  rw [State.setRoute_routeAt]
  split
  · next e =>
    subst e
    exact .inr ⟨r, r', slot, rfl, owner, cls, sound⟩
  · cases hj : s.routeAt j with
    | none => exact .inl ⟨rfl, rfl⟩
    | some q => exact .inr ⟨q, q, rfl, rfl, rfl, rfl, (sounds j q hj).2⟩

/-! ### The records of routes -/

theorem Route.closing_sound {r : Route} (cause : CloseCause) (h : r.sound) : (r.closing cause).sound := by
  obtain ⟨lo, hi, placement, zones, stereo, -, -, -⟩ := h
  exact ⟨lo, hi, placement, zones, stereo, ⟨fun _ => rfl, fun _ => rfl⟩, fun _ => rfl, nofun⟩

theorem Route.closedBy_sound {r : Route} (cut : Bool) (h : r.sound) : (r.closedBy cut).sound := by
  unfold Route.closedBy
  split
  · next closing =>
    split
    · obtain ⟨lo, hi, placement, zones, stereo, -, stopped, timer⟩ := h
      exact ⟨lo, hi, placement, zones, stereo, ⟨fun _ => closing, fun _ => rfl⟩, stopped, timer⟩
    · exact h
  · exact Route.closing_sound _ h

theorem Route.closedBy_state (r : Route) (cut : Bool) : (r.closedBy cut).state = .closing := by
  unfold Route.closedBy
  split
  · next closing => split <;> exact closing
  · rfl

theorem Route.closedBy_owner (r : Route) (cut : Bool) : (r.closedBy cut).owner = r.owner := by
  unfold Route.closedBy
  split
  · split <;> rfl
  · rfl

theorem Route.closedBy_cls (r : Route) (cut : Bool) : (r.closedBy cut).cls = r.cls := by
  unfold Route.closedBy
  split
  · split <;> rfl
  · rfl

theorem Route.forced_sound {r : Route} (h : r.sound) : r.forced.sound := by
  unfold Route.forced
  split
  · exact h
  · exact Route.closing_sound _ h

theorem Route.forced_state (r : Route) : r.forced.state = .closing := by
  unfold Route.forced
  split
  · assumption
  · rfl

theorem Route.forced_owner (r : Route) : r.forced.owner = r.owner := by
  unfold Route.forced
  split <;> rfl

theorem Route.forced_cls (r : Route) : r.forced.cls = r.cls := by
  unfold Route.forced
  split <;> rfl

/-- A route that becomes LIVE was OPENING, and so without a cause (R29). -/
theorem Route.live_sound {r : Route} (opening : r.state = .opening) (h : r.sound) :
    ({ r with state := .live } : Route).sound := by
  obtain ⟨lo, hi, placement, zones, stereo, cause, -, timer⟩ := h
  rw [opening] at cause
  refine ⟨lo, hi, placement, zones, stereo, ⟨fun some => ?_, nofun⟩, nofun, timer⟩
  cases cause.mp some

/-- The route of a slot after one count of its hold timer (R40). -/
def Route.held (r : Route) : Route :=
  if expiresNext r.holdLeft then r.closing .expired else { r with holdLeft := countDown r.holdLeft }

theorem Slot.countHold_eq (slot : Slot) : slot.countHold = { slot with route := slot.route.map Route.held } := by
  obtain ⟨gen, route⟩ := slot
  cases route with
  | none => rfl
  | some r =>
    simp only [Slot.countHold, Option.map_some, Route.held]
    split <;> rfl

theorem Route.held_sound {r : Route} (h : r.sound) : r.held.sound := by
  unfold Route.held
  split
  · exact Route.closing_sound _ h
  · next runs_on =>
    obtain ⟨lo, hi, placement, zones, stereo, cause, stopped, timer⟩ := h
    rcases countDown_cases r.holdLeft with ⟨-, e, -⟩ | ⟨_, -, -, -, expires⟩ | ⟨n, at_n, above, e, -⟩
    · exact ⟨lo, hi, placement, zones, stereo, cause, fun _ => e, fun m hm => by rw [e] at hm; cases hm⟩
    · exact absurd expires runs_on
    · refine ⟨lo, hi, placement, zones, stereo, cause, fun closing => ?_, fun m hm => ?_⟩
      · rw [stopped closing] at at_n
        cases at_n
      · obtain ⟨-, time, htime, le⟩ := timer n at_n
        rw [e] at hm
        cases hm
        exact ⟨by omega, time, htime, by omega⟩

theorem Route.held_owner (r : Route) : r.held.owner = r.owner := by
  unfold Route.held
  split <;> rfl

theorem Route.held_cls (r : Route) : r.held.cls = r.cls := by
  unfold Route.held
  split <;> rfl

/-- A CLOSING route has no hold timer left to count. -/
theorem Route.held_of_closing {r : Route} (closing : r.state = .closing) :
    r.held.state = .closing := by
  unfold Route.held
  split
  · rfl
  · exact closing

theorem zonesOfCode_ne_zero {n : Nat} {zs : ZoneSet} (h : zonesOfCode n = some zs) : zs ≠ 0#4 := by
  unfold zonesOfCode at h
  split at h
  · next range =>
    cases h
    intro zero
    have := congrArg BitVec.toNat zero
    rw [BitVec.toNat_ofNat, Nat.mod_eq_of_lt (by omega)] at this
    simp at this
    omega
  · cases h

theorem placementField_range {fs : List Field} {p : Placement} {adjusted : Bool}
    (h : placementField fs = some (.placed p adjusted)) :
    -20 ≤ p.balance ∧ p.balance ≤ 20 ∧ -20 ≤ p.fade ∧ p.fade ≤ 20 := by
  unfold placementField at h
  split at h
  · cases h
  · next form b f _ =>
    split at h
    · cases h
      exact ⟨(clampTo_bounds (by decide) _).1, (clampTo_bounds (by decide) _).2,
        (clampTo_bounds (by decide) _).1, (clampTo_bounds (by decide) _).2⟩
    · split at h <;> cases h
  · cases h

theorem holdOfField_pos {o : Option Nat} {n : Nat} (h : holdOfField o = some n) : 1 ≤ n := by
  unfold holdOfField at h
  split at h
  · cases h
    omega
  · cases h

/-- The record of an OPEN: its lane's, OPENING, and sound (R33, R34). -/
theorem openRecord_sound {lane : LaneId} {fs : List Field} {r : Route} {adjusted : Bool}
    (h : openRecord lane fs = some (r, adjusted)) : r.owner = lane ∧ r.state = .opening ∧ r.sound := by
  simp only [openRecord, Option.bind_eq_bind, Option.bind_eq_some_iff] at h
  obtain ⟨cls, -, source, -, width, -, zones, hzones, level, -, follows, -, ramp, -, arg, harg, h⟩ := h
  obtain ⟨code, -, hcode⟩ := hzones
  split at h
  · cases h
  next stereo =>
  cases h
  refine ⟨rfl, rfl, (clampTo_bounds (by decide) _).1, (clampTo_bounds (by decide) _).2, fun p hp => ?_,
    zonesOfCode_ne_zero hcode, stereo, ⟨nofun, nofun⟩, nofun, fun n hn => ⟨holdOfField_pos hn, n, hn, le_rfl⟩⟩
  cases arg with
  | placed q changed =>
    cases hp
    exact placementField_range harg
  | absent => cases hp
  | removal => cases hp

/-- What the checked fields of an ADJUST are in range of (R35, R36). -/
theorem adjustArgs_range {fs : List Field} {a : AdjustArgs} (h : adjustArgs fs = some a) :
    (∀ zs, a.zones = some zs → zs ≠ 0#4)
    ∧ ∀ p adjusted, a.placement = .placed p adjusted →
        -20 ≤ p.balance ∧ p.balance ≤ 20 ∧ -20 ≤ p.fade ∧ p.fade ≤ 20 := by
  simp only [adjustArgs, Option.bind_eq_bind, Option.bind_eq_some_iff] at h
  obtain ⟨zones, hzones, arg, harg, follows, -, ramp, -, h⟩ := h
  split at h
  · cases h
    refine ⟨fun zs hzs => ?_, fun p adjusted hp => ?_⟩
    · simp only at hzs
      subst hzs
      unfold codeField at hzones
      split at hzones
      · cases hzones
      · obtain ⟨_, code, e⟩ := Option.map_eq_some_iff.mp hzones
        cases e
        exact zonesOfCode_ne_zero code
    · simp only at hp
      subst hp
      exact placementField_range harg
  · cases h

theorem Route.adjusted_sound {r : Route} {a : AdjustArgs} {fs : List Field} (args : adjustArgs fs = some a)
    (state : r.state ≠ .closing) (h : r.sound) : (r.adjusted a).sound := by
  obtain ⟨lo, hi, placement, zones, stereo, cause, -, timer⟩ := h
  obtain ⟨new_zones, new_placement⟩ := adjustArgs_range args
  have level : -480 ≤ (r.adjusted a).level ∧ (r.adjusted a).level ≤ 0 := by
    simp only [Route.adjusted]
    split
    · exact clampTo_bounds (by decide) _
    · exact ⟨lo, hi⟩
  refine ⟨level.1, level.2, fun p hp => ?_, ?_, stereo, cause, fun closing => absurd closing state,
    fun n hn => ?_⟩
  · simp only [Route.adjusted] at hp
    split at hp
    · exact placement p hp
    · cases hp
    · next harg =>
      cases hp
      exact new_placement _ _ harg
  · simp only [Route.adjusted]
    cases hz : a.zones with
    | none => exact zones
    | some zs => exact new_zones zs hz
  · simp only [Route.adjusted] at hn ⊢
    cases hh : a.hold with
    | none =>
      rw [hh] at hn
      exact timer n hn
    | some time =>
      rw [hh] at hn
      exact ⟨holdOfField_pos hn, n, hn, le_rfl⟩

/-! ### A route entered -/

theorem nextGeneration_ne_zero (g : BitVec 8) : nextGeneration g ≠ 0#8 := by
  unfold nextGeneration
  split
  · decide
  · bv_omega

/-- One entry changed adds at most itself to a count. -/
theorem countP_upd_le {α : Type} {n : Nat} (v : Vector α n) (i : Fin n) (f : α → α) (p : α → Bool) :
    (upd v i f).toList.countP p ≤ v.toList.countP p + if p (f v[i]) then 1 else 0 := by
  unfold upd
  rw [Vector.toList_set, List.countP_set (by simp)]
  exact Nat.add_le_add_right (Nat.sub_le ..) _

theorem RouteTable.owned_eq (t : RouteTable) (lane : LaneId) :
    t.owned lane = t.slots.toList.countP fun slot => slot.route.any fun r => decide (r.owner = lane) := by
  unfold RouteTable.owned
  congr 1
  funext slot
  cases slot.route <;> rfl

theorem RouteTable.lowestFree_free {t : RouteTable} {i : SlotId} (h : t.lowestFree = some i) :
    (t.slots[i]).route = none :=
  Option.isNone_iff_eq_none.mp (List.find?_some (p := fun i : SlotId => (t.slots[i]).route.isNone) h)

theorem State.enterRoute_routeAt (s : State) (i j : SlotId) (r : Route) :
    (s.enterRoute i r).routeAt j = if j = i then some r else s.routeAt j := by
  simp only [State.routeAt, State.enterRoute, upd_get]
  split_ifs <;> rfl

theorem State.enterRoute_handleAt (s : State) (i j : SlotId) (r : Route) :
    ((s.enterRoute i r).handleAt j).gen =
      if j = i then nextGeneration (s.handleAt i).gen else (s.handleAt j).gen := by
  simp only [State.handleAt, State.enterRoute, upd_get]
  split_ifs with e
  · rw [e]
  · rfl

/-- A free slot takes a route that the quota and the table's space leave room for (R24, R26). -/
theorem State.enterRoute_keeps_tableRecords {s : State} {lane : LaneId} {i : SlotId} {r : Route}
    (owner : r.owner = lane) (sound : r.sound) (quota : s.table.owned lane < s.table.quotas[lane])
    (space : s.table.isFull r.cls = false) (free : s.routeAt i = none) (hs : TableRecords s) :
    TableRecords (s.enterRoute i r) := by
  obtain ⟨nodup, listed, sounds, quotas, reserve, spilled⟩ := hs
  have unlisted : i ∉ s.table.order := fun hi => by
    have := (listed i).mp hi
    rw [free] at this
    cases this
  refine ⟨?_, fun j => ?_, fun j q hq => ?_, fun l => ?_, ?_, fun j hj => ?_⟩
  · exact List.nodup_append.mpr ⟨nodup, List.nodup_singleton i, fun a ha b hb => by
      rw [List.mem_singleton.mp hb]
      exact ne_of_mem_of_not_mem ha unlisted⟩
  · rw [State.enterRoute_routeAt]
    show j ∈ s.table.order ++ [i] ↔ _
    rw [List.mem_append, List.mem_singleton, listed]
    split
    · next e => simp [e]
    · next e => simp [e]
  · rw [State.enterRoute_routeAt] at hq
    rw [State.enterRoute_handleAt]
    split at hq
    · next e =>
      cases hq
      rw [if_pos e]
      exact ⟨nextGeneration_ne_zero _, sound⟩
    · next e =>
      rw [if_neg e]
      exact sounds j q hq
  · refine (countP_upd_le s.table.slots i _ _).trans ?_
    show _ ≤ s.table.quotas[l]
    rw [Option.any_some, owner]
    by_cases e : lane = l
    · subst e
      rw [RouteTable.owned_eq] at quota
      simpa using quota
    · simpa [e] using quotas l
  · refine (countP_upd_le s.table.slots i _ _).trans ?_
    rw [Option.any_some]
    by_cases alert : r.cls = .alert
    · simpa [alert] using reserve
    · have routes : s.table.count < 30 := by
        simpa [RouteTable.isFull, alert] using space
      have fewer : s.table.slots.toList.countP (fun slot => slot.route.any fun r => decide (r.cls ≠ .alert))
          ≤ s.table.count :=
        List.countP_mono_left fun slot _ h => by
          cases hr : slot.route with
          | none => simp [hr] at h
          | some _ => rfl
      simp only [alert, ne_eq, not_false_eq_true, decide_true, if_true]
      simp only [ne_eq] at fewer
      omega
  · have flag : (s.enterRoute i r).prec.spill[j] = if j = i then false else s.prec.spill[j] := upd_get ..
    rw [flag] at hj
    rw [State.enterRoute_routeAt]
    split at hj
    · cases hj
    · next e =>
      rw [if_neg e]
      exact spilled j hj

/-! ### The end of LEAVING -/

/-- Where routes that LEAVING left may all have gone, the end of LEAVING follows and the table is sound
(R44). -/
theorem State.leaveIfEmpty_tableInv {s : State} (records : TableRecords s)
    (empty : s.ctl.mode = .standby ∨ s.ctl.mode = .setup → ∀ i : SlotId, s.routeAt i = none)
    (closing : s.ctl.mode = .leaving → ∀ (i : SlotId) (r : Route), s.routeAt i = some r → r.state = .closing) :
    TableInv s.leaveIfEmpty := by
  rw [tableInv_iff]
  rcases s.leaveIfEmpty_cases with ⟨-, none_left, e⟩ | ⟨some_left, e⟩
  · rw [e]
    exact ⟨records, fun _ => none_left, nofun⟩
  · rw [e]
    refine ⟨records, empty, fun leaving => ⟨?_, closing leaving⟩⟩
    by_contra none_left
    refine some_left ⟨leaving, fun i => ?_⟩
    cases hi : s.routeAt i with
    | none => rfl
    | some r => exact absurd ⟨i, by rw [hi]; rfl⟩ none_left

/-- SET_MODE SETUP in RUN: every route is CLOSING, and without one LEAVING ends at once (R43, R44). -/
theorem State.leave_keeps_tableInv {s : State} (hs : TableRecords s) :
    TableInv ({ s with ctl := { s.ctl with mode := .leaving } } : State).forceAll.leaveIfEmpty := by
  obtain ⟨slots, notices, e, forced, -⟩ :=
    State.forceAll_law { s with ctl := { s.ctl with mode := .leaving } }
  obtain ⟨-, -, sounds, -⟩ := id hs
  have route (i : SlotId) : ({ s with ctl := { s.ctl with mode := .leaving } } : State).forceAll.routeAt i
      = (s.routeAt i).map Route.forced := by
    rw [e]
    exact (forced i).2
  have thinned : Thinned s ({ s with ctl := { s.ctl with mode := .leaving } } : State).forceAll := by
    refine Thinned.of_revised hs (by rw [e]) (fun i => ?_) (by rw [e]) (by rw [e]) fun i => ?_
    · rw [e]
      exact (forced i).1
    · rw [route]
      cases hi : s.routeAt i with
      | none => exact .inl ⟨rfl, rfl⟩
      | some r =>
        exact .inr ⟨r, _, rfl, rfl, r.forced_owner, r.forced_cls, Route.forced_sound (sounds i r hi).2⟩
  refine State.leaveIfEmpty_tableInv (thinned.tableRecords hs) ?_ fun _ i r' hr' => ?_
  · rw [e]
    rintro (standby | setup)
    · cases standby
    · cases setup
  · rw [route] at hr'
    obtain ⟨r, -, rfl⟩ := Option.map_eq_some_iff.mp hr'
    exact r.forced_state

/-- A report taken keeps the table sound: it settles OPENING routes, frees CLOSING ones, and may end
LEAVING (R28, R29, R31, R44). -/
theorem State.takeReport_keeps_tableInv {s : State} (hs : TableInv s) : TableInv s.takeReport := by
  cases hrep : s.table.report with
  | none => rwa [State.takeReport_none hrep]
  | some rep =>
    obtain ⟨records, empty, leaving⟩ := (tableInv_iff s).mp hs
    obtain ⟨nodup, listed, sounds, -, -, spilled⟩ := id records
    obtain ⟨slots, spill, ns, e, entry, -⟩ := State.takeReport_law hrep
    rw [e]
    have origin (i : SlotId) (r' : Route) (hr' : (slots[i]).route = some r') :
        i ∉ s.silentSlots rep.silent ∧ ∃ r, s.routeAt i = some r
          ∧ (r' = r ∨ r.state = .opening ∧ r' = { r with state := .live }) := by
      rw [(entry i).2.1] at hr'
      split at hr'
      · cases hr'
      next stays =>
      refine ⟨stays, ?_⟩
      split at hr'
      · next settled =>
        obtain ⟨r, hr, rfl⟩ := Option.map_eq_some_iff.mp hr'
        obtain ⟨h, -, slot, still⟩ := settled
        obtain ⟨q, hq, -, -, opening⟩ := (State.stillIn_iff _ _ _).mp still
        rw [slot, hr] at hq
        cases hq
        exact ⟨r, hr, .inr ⟨opening, rfl⟩⟩
      · exact ⟨r', hr', .inl rfl⟩
    have present (i : SlotId) : (slots[i]).route.isSome = true ↔
        i ∉ s.silentSlots rep.silent ∧ (s.routeAt i).isSome = true := by
      rw [(entry i).2.1]
      split
      · next gone => simp [gone]
      · next stays =>
        split <;> simp [stays]
    refine State.leaveIfEmpty_tableInv (Thinned.tableRecords ⟨?_, fun i => ?_, fun i => (entry i).1,
      fun i r' hr' => ?_, rfl, fun i hi => ?_⟩ records) (fun mode i => ?_) fun mode i r' hr' => ?_
    · exact List.filter_sublist
    · show i ∈ s.table.order.filter _ ↔ (slots[i]).route.isSome = true
      rw [present, List.mem_filter, decide_eq_true_iff, listed]
      exact And.comm
    · obtain ⟨-, r, hr, rfl | ⟨opening, rfl⟩⟩ := origin i r' hr'
      · exact ⟨r', hr, rfl, rfl, (sounds i r' hr).2⟩
      · exact ⟨r, hr, rfl, rfl, Route.live_sound opening (sounds i r hr).2⟩
    · have hi : spill[i] = true := hi
      rw [(entry i).2.2] at hi
      split at hi
      · cases hi
      next stays =>
      obtain ⟨r, hr, alert⟩ := spilled i hi
      obtain ⟨r', hr'⟩ := Option.isSome_iff_exists.mp ((present i).mpr ⟨stays, by rw [hr]; rfl⟩)
      obtain ⟨-, q, hq, same⟩ := origin i r' hr'
      rw [hr] at hq
      cases hq
      refine ⟨r', hr', ?_⟩
      rcases same with rfl | ⟨-, rfl⟩ <;> exact alert
    · cases hr' : (slots[i]).route with
      | none => exact hr'
      | some r' =>
        obtain ⟨-, r, hr, -⟩ := origin i r' hr'
        rw [empty mode i] at hr
        cases hr
    · obtain ⟨-, r, hr, rfl | ⟨opening, -⟩⟩ := origin i r' hr'
      · exact (leaving mode).2 i r' hr
      · rw [(leaving mode).2 i r hr] at opening
        cases opening

/-- A spill decision sets flags of ALERT routes alone (R65). -/
theorem State.spillAfter_alert {s : State} (hs : TableRecords s) {i : SlotId} (h : s.spillAfter i = true) :
    ∃ r, s.routeAt i = some r ∧ r.cls = .alert := by
  obtain ⟨-, -, -, -, -, spilled⟩ := hs
  unfold State.spillAfter at h
  split at h
  · next r hr =>
    split at h
    · next alert => exact ⟨r, hr, alert.1⟩
    · exact spilled i h
  · exact spilled i h

theorem State.stages_keeps_tableInv {s : State} (hs : TableInv s) : TableInv s.stages := by
  obtain ⟨records, modes⟩ := (tableInv_iff s).mp hs
  obtain ⟨nodup, listed, sounds, quotas, reserve, -⟩ := id records
  obtain ⟨-, ns, free, e, -⟩ := s.stages_law
  rw [e, tableInv_iff]
  refine ⟨⟨nodup, listed, sounds, quotas, reserve, fun i hi => ?_⟩, modes⟩
  have flag : s.spilled.prec.spill[i] = s.spillAfter i := ofFn_get _ i
  exact State.spillAfter_alert records (flag ▸ hi)

/-- Every route's hold timer counts (R40). -/
theorem State.holdMillisecond_keeps_tableInv {s : State} (notices : Vector NoticeSet 4) (hs : TableInv s) :
    TableInv { s with
      table := { s.table with slots := Vector.ofFn fun i => (s.table.slots[i]).countHold }
      link := { s.link with notices := notices } } := by
  obtain ⟨records, empty, leaving⟩ := (tableInv_iff s).mp hs
  obtain ⟨-, -, sounds, -⟩ := id records
  obtain ⟨slots, hslots⟩ : ∃ slots : Vector Slot 32,
      slots = Vector.ofFn fun i : SlotId => (s.table.slots[i]).countHold := ⟨_, rfl⟩
  rw [← hslots]
  have entry (i : SlotId) : slots[i] = { s.table.slots[i] with route := (s.routeAt i).map Route.held } := by
    rw [hslots, ofFn_get, Slot.countHold_eq]
    rfl
  have route (i : SlotId) : (slots[i]).route = (s.routeAt i).map Route.held := by rw [entry]
  rw [tableInv_iff]
  refine ⟨Thinned.tableRecords (Thinned.of_revised records rfl (fun i => ?_) rfl rfl fun i => ?_) records,
    fun mode i => ?_, fun mode => ⟨?_, fun i r' hr' => ?_⟩⟩
  · show (slots[i]).gen = _
    rw [entry]
  · have at_i : ({ s with
        table := { s.table with slots := slots }, link := { s.link with notices := notices } } : State).routeAt i
        = (s.routeAt i).map Route.held := route i
    rw [at_i]
    cases hi : s.routeAt i with
    | none => exact .inl ⟨rfl, rfl⟩
    | some r => exact .inr ⟨r, _, rfl, rfl, r.held_owner, r.held_cls, Route.held_sound (sounds i r hi).2⟩
  · refine (route i).trans ?_
    rw [empty mode i]
    rfl
  · obtain ⟨i, hi⟩ := (leaving mode).1
    refine ⟨i, ?_⟩
    show (slots[i]).route.isSome = true
    rw [route, Option.isSome_map, hi]
  · have hr' : (slots[i]).route = some r' := hr'
    rw [route] at hr'
    obtain ⟨r, hr, rfl⟩ := Option.map_eq_some_iff.mp hr'
    exact Route.held_of_closing ((leaving mode).2 i r hr)

/-- One route revised into CLOSING or, outside LEAVING, in its state. -/
theorem State.setRoute_keeps_tableInv {s : State} {i : SlotId} {r r' : Route} (slot : s.routeAt i = some r)
    (owner : r'.owner = r.owner) (cls : r'.cls = r.cls) (sound : r'.sound)
    (state : r'.state = .closing ∨ r.state ≠ .closing) (hs : TableInv s) :
    TableInv (s.setRoute i (some r')) := by
  obtain ⟨records, empty, leaving⟩ := (tableInv_iff s).mp hs
  rw [tableInv_iff]
  refine ⟨(Thinned.setRoute records slot owner cls sound).tableRecords records, fun mode => ?_, fun mode =>
    ⟨⟨i, by rw [State.setRoute_routeAt, if_pos rfl]; rfl⟩, fun j q hq => ?_⟩⟩
  · rw [empty mode i] at slot
    cases slot
  · rw [State.setRoute_routeAt] at hq
    split at hq
    · cases hq
      exact state.resolve_right (not_not.mpr ((leaving mode).2 i r slot))
    · exact (leaving mode).2 j q hq

/-! ### Every command -/

theorem Takes.keeps_tableInv {k : Kind} {lane : LaneId} {fs : List Field} {s t : State}
    (h : Takes k lane fs s t) (hs : TableInv s) : TableInv t := by
  have ⟨records, modes⟩ := (tableInv_iff s).mp hs
  obtain ⟨nodup, listed, sounds, quotas, reserve, spilled⟩ := records
  have records := ((tableInv_iff s).mp hs).1
  cases h with
  | run _ _ _ _ _ => exact (tableInv_iff _).mpr ⟨records, nofun, nofun⟩
  | leave _ _ _ _ _ _ _ _ _ _ left => exact left ▸ State.leave_keeps_tableInv records
  | enterRoute _ _ _ _ _ _ mode record quota space lowest =>
    obtain ⟨owner, -, sound⟩ := openRecord_sound record
    refine (tableInv_iff _).mpr ⟨State.enterRoute_keeps_tableRecords owner sound quota space
      (RouteTable.lowestFree_free lowest) records, fun h => ?_, fun h => ?_⟩
    · rcases h with h | h <;> cases mode.symm.trans h
    · cases mode.symm.trans h
  | adjust _ _ _ i r _ slot _ state args =>
    exact State.setRoute_keeps_tableInv slot rfl rfl (Route.adjusted_sound args state (sounds i r slot).2)
      (.inr state) hs
  | close _ _ _ i r cut slot _ =>
    exact State.setRoute_keeps_tableInv slot (r.closedBy_owner cut) (r.closedBy_cls cut)
      (Route.closedBy_sound cut (sounds i r slot).2) (.inl (r.closedBy_state cut)) hs
  | quota _ _ _ _ _ mode =>
    have empty := modes.1 (.inr mode)
    refine (tableInv_iff _).mpr ⟨⟨nodup, listed, sounds, fun l => ?_, reserve, spilled⟩, modes⟩
    have none_owned : s.table.slots.toList.countP
        (fun slot => slot.route.any fun r => decide (r.owner = l)) = 0 := by
      rw [List.countP_eq_zero]
      intro slot hslot
      obtain ⟨i, rfl⟩ := (mem_toList_iff _ _).mp hslot
      have free : (s.table.slots[i]).route = none := empty i
      rw [free]
      simp
    exact none_owned.trans_le (Nat.zero_le _)
  | _ => exact TableInv.congr (s := s) rfl rfl rfl hs

theorem powerOn_tableInv (lines : Lines) : TableInv (State.powerOn lines) := by
  have free (i : SlotId) : (State.powerOn lines).routeAt i = none := by
    show Slot.route (Vector.replicate 32 _)[i] = none
    rw [replicate_get]
  refine ⟨List.nodup_nil, fun i => ⟨fun h => (List.not_mem_nil h).elim, fun h => ?_⟩,
    fun i r hr => absurd hr (by simp [free]), fun lane => ?_, ?_, fun i hi => ?_, fun _ => free, nofun⟩
  · rw [free] at h
    cases h
  · exact Nat.zero_le _
  · exact Nat.zero_le _
  · have flag : (State.powerOn lines).prec.spill[i] = false := by
      show (Vector.replicate 32 false)[i] = false
      rw [replicate_get]
    rw [flag] at hi
    cases hi

/-- Entry to STANDBY frees every route (R45). -/
theorem tableInv_of_freed {s t : State} (table : t.table = s.table.freeEvery)
    (spill : t.prec.spill = Vector.replicate 32 false) (mode : t.ctl.mode = .standby) (hs : TableInv s) :
    TableInv t := by
  have entry (i : SlotId) : t.table.slots[i] = { s.table.slots[i] with route := none } := by
    rw [table, RouteTable.freeEvery]
    exact ofFn_get _ i
  have free (i : SlotId) : t.routeAt i = none := by rw [State.routeAt, entry]
  have order : t.table.order = [] := by rw [table, RouteTable.freeEvery]
  have thinned : Thinned s t := by
    refine ⟨order ▸ List.nil_sublist _, fun i => ?_, fun i => by rw [entry], fun i r hr => ?_,
      by rw [table, RouteTable.freeEvery], fun i hi => ?_⟩
    · rw [free, order]
      exact ⟨fun h => (List.not_mem_nil h).elim, nofun⟩
    · rw [free] at hr
      cases hr
    · rw [spill, replicate_get] at hi
      cases hi
  refine (tableInv_iff t).mpr ⟨thinned.tableRecords ((tableInv_iff s).mp hs).1, fun _ => free, ?_⟩
  rw [mode]
  exact nofun

theorem Event.keeps_tableInv {c : Instr} {s t : State} (h : Event c s t) (hs : TableInv s) : TableInv t := by
  have ⟨records, modes⟩ := (tableInv_iff s).mp hs
  obtain ⟨nodup, listed, sounds, quotas, reserve, spilled⟩ := records
  have records := ((tableInv_iff s).mp hs).1
  cases h with
  | powerOn lines => exact powerOn_tableInv lines
  | rstNRelease lines => exact powerOn_tableInv lines
  | standby crank awarn => exact tableInv_of_freed (s := s) rfl rfl rfl hs
  | wakeUpEnds _ mode =>
    exact (tableInv_iff _).mpr ⟨records, fun _ => modes.1 (.inl mode), nofun⟩
  | leavingEnds _ _ _ _ ends =>
    refine (tableInv_iff _).mpr ⟨records, ?_⟩
    rcases ends with ⟨rfl, -⟩ | ⟨-, rfl, -, empty⟩
    · exact modes
    · exact ⟨fun _ => empty, nofun⟩
  | passReport _ _ _ _ _ _ _ _ taken => exact taken ▸ State.takeReport_keeps_tableInv hs
  | pass _ _ _ _ _ _ _ _ _ _ _ _ passed =>
    exact passed ▸ State.stages_keeps_tableInv (State.takeReport_keeps_tableInv hs)
  | holdMillisecond _ notices => exact State.holdMillisecond_keeps_tableInv notices hs
  | holdExpiry i r _ _ slot =>
    have kept := State.setRoute_keeps_tableInv (r' := r.closing .expired) slot rfl rfl
      (Route.closing_sound _ (sounds i r slot).2) (.inl rfl) hs
    exact TableInv.congr rfl rfl rfl kept
  | frame _ _ _ _ only =>
    obtain ⟨_, _, _, _, _, _, _, _, _, rfl, -⟩ := only
    exact TableInv.congr (s := s) rfl rfl rfl hs
  | overload _ _ _ _ _ _ only =>
    obtain ⟨_, _, _, _, _, _, _, _, _, rfl, -⟩ := only
    exact TableInv.congr (s := s) rfl rfl rfl hs
  | _ => exact TableInv.congr (s := s) rfl rfl rfl hs

theorem step_keeps_tableInv {s t : State} (h : step s = .next t) (hs : TableInv s) : TableInv t :=
  step_keeps (fun _ _ h => h) (exec_keeps (fun _ _ h => h) Takes.keeps_tableInv Event.keeps_tableInv) h hs

/-- Settles O56. -/
theorem routeTableStaysSound : Obligations.RouteTableStaysSound := fun _ _ table h => step_keeps_tableInv h table

end Sys2Proof.Machine
end

section
/-! SUPPORT. What overload events do, said once for any list of speakers: each speaker's items by its
protection mode, and the gates, samples and section states of those whose mode closes the gate (R142, R149 to
R152). -/
namespace Sys2Proof.Machine

theorem upd_upd {α : Type} {n : Nat} (v : Vector α n) (i : Fin n) (f g : α → α) :
    upd (upd v i f) i g = upd v i fun x => g (f x) := by
  apply vector_ext
  intro j
  simp only [upd_get]
  split <;> rfl

theorem State.raise_noticed (s : State) (lane : LaneId) (k : Notice) (h : Option Handle) :
    s.raise lane k h = { s with link := { s.link with notices := noticed s.link.notices lane k h } } := by
  have add : (fun ns : NoticeSet => ns.add k h) = fun ns =>
      { kinds := upd ns.kinds k.index fun _ => true, latest := h.or ns.latest } := by
    funext ns
    cases h <;> rfl
  rw [State.raise, add]
  rfl

/-- A notice without a handle that already stands changes nothing. -/
theorem noticed_again (notices : Vector NoticeSet 4) (lane : LaneId) (k : Notice) :
    noticed (noticed notices lane k none) lane k none = noticed notices lane k none := by
  simp only [noticed, upd_upd, Option.none_or]

/-- The protection modes whose overload event closes the gate (R149). -/
def ProtMode.closes : ProtMode → Bool
  | .off | .report => false
  | .retryFast | .retrySlow | .latch => true

/-- A speaker's protection items after an overload event under a mode (R149 to R152). -/
def SpeakerProt.overloaded (p : SpeakerProt) : ProtMode → SpeakerProt
  | .off => p
  | .report => { p with report := true }
  | .retryFast => { p.trip 50 with counter := 0 }
  | .retrySlow => { p.trip 500 with counter := 0 }
  | .latch => { p with state := .latched .direct, counter := 0, window := none }

/-- The overload event of this speaker closes its gate. -/
def State.shuts (s : State) (sp : SpeakerId) : Bool := (s.cabin.speakers[sp]).protMode.closes

/-- The overload events of these speakers, one per speaker, take s to t. -/
def OverloadsAct (l : List SpeakerId) (s t : State) : Prop :=
  t = { s with
    mixer := { s.mixer with gates := t.mixer.gates, held := t.mixer.held }
    eq := { s.eq with speakers := t.eq.speakers }
    prot := { s.prot with speakers := t.prot.speakers, summary := t.prot.summary }
    link := { s.link with notices := t.link.notices } }
  ∧ (∀ sp : SpeakerId,
      t.prot.speakers[sp] = (if sp ∈ l then (s.prot.speakers[sp]).overloaded (s.cabin.speakers[sp]).protMode
        else s.prot.speakers[sp])
      ∧ t.mixer.gates[sp] = (if sp ∈ l ∧ s.shuts sp = true then false else s.mixer.gates[sp])
      ∧ t.mixer.held[sp] = (if sp ∈ l ∧ s.shuts sp = true then 0 else s.mixer.held[sp])
      ∧ t.eq.speakers[sp] = (if sp ∈ l ∧ s.shuts sp = true then
          { s.eq.speakers[sp] with state := sectionsAtRest } else s.eq.speakers[sp]))
  ∧ (t.prot.summary = true ↔ s.prot.summary = true ∨ ∃ sp ∈ l, (s.cabin.speakers[sp]).protMode ≠ .off)
  ∧ t.link.notices = (if ∃ sp ∈ l, s.shuts sp = true then noticed s.link.notices 0 .protect none
      else s.link.notices)

theorem OverloadsAct.nil (s : State) : OverloadsAct [] s s := by
  refine ⟨rfl, fun sp => ⟨?_, ?_, ?_, ?_⟩, ?_, ?_⟩ <;> simp

/-- The gate closes, the trip is reported and these items stand (R142, R149, R151, R152). -/
theorem State.shut_eq (s : State) (sp : SpeakerId) (f : SpeakerProt → SpeakerProt) :
    ((s.setProt sp f).closeGate sp).reportTrip =
      { s with
        mixer := { s.mixer with
          gates := upd s.mixer.gates sp fun _ => false, held := upd s.mixer.held sp fun _ => 0 }
        eq := { s.eq with speakers := upd s.eq.speakers sp fun e => { e with state := sectionsAtRest } }
        prot := { s.prot with
          speakers := upd s.prot.speakers sp fun p => { f p with counter := 0 }, summary := true }
        link := { s.link with notices := noticed s.link.notices 0 .protect none } } := by
  rw [State.reportTrip, State.raise_noticed]
  simp only [State.closeGate, State.setProt, upd_upd]

/-- An overload event under a mode that closes the gate (R149, R151, R152). -/
theorem State.shut_acts {s : State} {sp : SpeakerId} {f : SpeakerProt → SpeakerProt}
    (shuts : s.shuts sp = true)
    (items : { f s.prot.speakers[sp] with counter := 0 } =
      (s.prot.speakers[sp]).overloaded (s.cabin.speakers[sp]).protMode) :
    OverloadsAct [sp] s ((s.setProt sp f).closeGate sp).reportTrip := by
  have on : (s.cabin.speakers[sp]).protMode ≠ .off := fun off => by
    rw [State.shuts, off] at shuts
    cases shuts
  rw [State.shut_eq]
  refine ⟨rfl, fun other => ?_, ⟨fun _ => .inr ⟨sp, List.mem_singleton_self sp, on⟩, fun _ => rfl⟩, ?_⟩
  · simp only [upd_get, List.mem_singleton]
    by_cases e : other = sp
    · subst e
      simp only [if_true, shuts, and_self, items]
    · simp only [e, if_false, false_and]
      trivial
  · rw [if_pos ⟨sp, List.mem_singleton_self sp, shuts⟩]

/-- An overload event under a mode that leaves the gate open (R150). -/
theorem OverloadsAct.of_open {s : State} {sp : SpeakerId} {speakers : Vector SpeakerProt 24} {summary : Bool}
    (opened : s.shuts sp = false)
    (items : ∀ other : SpeakerId, speakers[other] =
      if other = sp then (s.prot.speakers[sp]).overloaded (s.cabin.speakers[sp]).protMode
      else s.prot.speakers[other])
    (flag : summary = true ↔ s.prot.summary = true ∨ (s.cabin.speakers[sp]).protMode ≠ .off) :
    OverloadsAct [sp] s { s with prot := { s.prot with speakers := speakers, summary := summary } } := by
  have stays (other : SpeakerId) : ¬(other ∈ [sp] ∧ s.shuts other = true) := fun ⟨only, shuts⟩ => by
    rw [List.mem_singleton.mp only, opened] at shuts
    cases shuts
  refine ⟨rfl, fun other => ⟨?_, (if_neg (stays other)).symm, (if_neg (stays other)).symm,
    (if_neg (stays other)).symm⟩, flag.trans ?_, (if_neg fun ⟨other, h⟩ => stays other h).symm⟩
  · rw [items]
    by_cases e : other = sp
    · subst e
      rw [if_pos rfl, if_pos (List.mem_singleton_self other)]
    · rw [if_neg e, if_neg fun only => e (List.mem_singleton.mp only)]
  · simp only [List.mem_singleton, exists_eq_left]

theorem State.overload_acts (s : State) (sp : SpeakerId) : OverloadsAct [sp] s (s.overload sp) := by
  cases mode : (s.cabin.speakers[sp]).protMode with
  | off =>
    rw [State.overload, mode]
    refine OverloadsAct.of_open (speakers := s.prot.speakers) (summary := s.prot.summary) ?_
      (fun other => ?_) ?_
    · rw [State.shuts, mode]
      rfl
    · rw [mode]
      split
      · next e =>
        rw [e]
        rfl
      · rfl
    · simp only [mode, ne_eq, not_true_eq_false, or_false]
  | report =>
    rw [State.overload, mode]
    refine OverloadsAct.of_open ?_ (fun other => ?_) ?_
    · rw [State.shuts, mode]
      rfl
    · rw [mode, State.setProt, upd_get]
      split
      · next e =>
        rw [e]
        rfl
      · rfl
    · exact ⟨fun _ => .inr (by rw [mode]; decide), fun _ => rfl⟩
  | retryFast | retrySlow | latch =>
    rw [State.overload, mode]
    refine State.shut_acts ?_ ?_
    · rw [State.shuts, mode]
      rfl
    · rw [mode]
      rfl

/-- One event more before those of other speakers. -/
theorem OverloadsAct.cons {sp : SpeakerId} {l : List SpeakerId} {s t v : State} (new : sp ∉ l)
    (h : OverloadsAct [sp] s t) (h' : OverloadsAct l t v) : OverloadsAct (sp :: l) s v := by
  obtain ⟨frame, entry, summary, notices⟩ := h
  obtain ⟨frame', entry', summary', notices'⟩ := h'
  have cabin : t.cabin = s.cabin := by rw [frame]
  have shuts (other : SpeakerId) : t.shuts other = s.shuts other := by rw [State.shuts, cabin, State.shuts]
  refine ⟨?_, fun other => ?_, ?_, ?_⟩
  · rw [frame'] 
    rw [frame]
  · obtain ⟨items, gate, held, eq⟩ := entry other
    obtain ⟨items', gate', held', eq'⟩ := entry' other
    rw [items', gate', held', eq', items, gate, held, eq, shuts, cabin]
    simp only [List.mem_cons]
    by_cases e : other = sp
    · subst e
      simp [new]
    · simp [e]
  · rw [summary', summary, cabin]
    simp only [List.mem_singleton, exists_eq_left, or_assoc]
    simp
  · rw [notices', notices]
    simp only [shuts, List.mem_cons, exists_eq_or_imp]
    cases s.shuts sp with
    | true =>
      simp only [if_true, true_or]
      split
      · exact noticed_again _ _ _
      · rfl
    | false => simp

theorem State.overloadAll_acts {l : List SpeakerId} (nodup : l.Nodup) (s : State) :
    OverloadsAct l s (s.overloadAll l) := by
  induction l generalizing s with
  | nil => exact OverloadsAct.nil s
  | cons sp rest ih =>
    obtain ⟨new, nodup⟩ := List.nodup_cons.mp nodup
    exact OverloadsAct.cons new (s.overload_acts sp) (ih nodup _)

end Sys2Proof.Machine
end

section
/-! PROOF. The Protection Monitor under every command: what each operation makes of one speaker's items and
of one port, and from them the invariant. -/
namespace Sys2Proof.Machine

/-- The invariant reads the speakers' and ports' items, the gates and the speaker entries. -/
theorem ProtectionInv.congr {s t : State} (prot : t.prot = s.prot) (gates : t.mixer.gates = s.mixer.gates)
    (entries : t.cabin.speakers = s.cabin.speakers) (hs : ProtectionInv s) : ProtectionInv t := by
  have same : ProtectionInv t = ProtectionInv s := by
    simp only [ProtectionInv, prot, gates, entries]
  exact same ▸ hs

/-- A port's hold timer runs exactly while it is HOLDING, in range (R157). -/
def PortThermal.sound (p : PortThermal) : Prop :=
  (p.hold.isSome = true ↔ p.state = .holding) ∧ ∀ n, p.hold = some n → 1 ≤ n ∧ n ≤ 2000

theorem protectionInv_iff (s : State) :
    ProtectionInv s ↔
      (∀ sp : SpeakerId, (s.prot.speakers[sp]).sound s.mixer.gates[sp] s.cabin.speakers[sp] s.prot.summary)
      ∧ ∀ port : PortId, (s.prot.ports[port]).sound := Iff.rfl

/-! ### One speaker -/

theorem SpeakerProt.clear_sound {e : SpeakerEntry} (summary : Bool) (deglitch : 1 ≤ e.deglitch) :
    SpeakerProt.clear.sound true e summary := by
  refine ⟨⟨fun _ => rfl, fun _ => rfl⟩, ⟨nofun, nofun⟩, nofun, nofun, nofun, Nat.zero_le _, ⟨nofun, nofun⟩,
    deglitch, ?_⟩
  rintro (h | h)
  · exact absurd rfl h
  · cases h

theorem SpeakerProt.deglitch_pos {p : SpeakerProt} {gate summary : Bool} {e : SpeakerEntry}
    (h : p.sound gate e summary) : 1 ≤ e.deglitch := by
  obtain ⟨-, -, -, -, -, -, -, counter, -⟩ := h
  omega

/-- A frame counter below the deglitch may stand in place of another, for any speaker entry. -/
theorem SpeakerProt.sound_of_counter {p : SpeakerProt} {gate summary : Bool} {e e' : SpeakerEntry} {n : Nat}
    (below : n < e'.deglitch) (h : p.sound gate e summary) :
    SpeakerProt.sound { p with counter := n } gate e' summary := by
  obtain ⟨gates, retry, window, retry_range, window_range, repeats, escalated, -, report⟩ := h
  exact ⟨gates, retry, window, retry_range, window_range, repeats, escalated, below, report⟩

/-- A retry is over: the speaker, that was TRIPPED and so not latched by escalation, is NORMAL (R153). -/
theorem SpeakerProt.recover_sound {p : SpeakerProt} {gate summary : Bool} {e : SpeakerEntry}
    (running : p.retry.isSome = true) (h : p.sound gate e summary) : p.recover.sound true e summary := by
  have deglitch := p.deglitch_pos h
  obtain ⟨-, retry, -, -, -, repeats, escalated, -, report⟩ := h
  have tripped := retry.mp running
  refine ⟨⟨fun _ => rfl, fun _ => rfl⟩, ⟨nofun, nofun⟩, fun _ => rfl, nofun, fun n hn => ?_, repeats,
    ⟨fun four => ?_, nofun⟩, deglitch, fun _ => report (.inl ?_)⟩
  · cases hn
    decide
  · have latched := escalated.mp four
    rw [tripped] at latched
    cases latched
  · rw [tripped]
    decide

/-- An escalation window is over (R154). -/
theorem SpeakerProt.windowOver_sound {p : SpeakerProt} {gate summary : Bool} {e : SpeakerEntry}
    (running : p.window.isSome = true) (h : p.sound gate e summary) :
    SpeakerProt.sound { p with window := none, repeats := 0 } gate e summary := by
  obtain ⟨gates, retry, window, retry_range, -, -, -, counter, report⟩ := h
  have normal := window running
  refine ⟨gates, retry, nofun, retry_range, nofun, Nat.zero_le _, ⟨nofun, fun latched => ?_⟩, counter, report⟩
  have latched : p.state = _ := latched
  rw [normal] at latched
  cases latched

/-- What one count makes of a speaker's timers (R153, R154). -/
theorem SpeakerProt.count_of_runs {p : SpeakerProt} (runs : expiresNext p.retry = false) :
    p.count = { p with
      retry := countDown p.retry, window := countDown p.window
      repeats := if expiresNext p.window then 0 else p.repeats } := by
  rw [SpeakerProt.count, if_neg (Bool.eq_false_iff.mp runs)]

theorem SpeakerProt.count_sound {p : SpeakerProt} {gate summary : Bool} {e : SpeakerEntry}
    (h : p.sound gate e summary) :
    p.count.sound (if expiresNext p.retry then true else gate) e summary := by
  rcases countDown_cases p.retry with ⟨stopped, -, runs⟩ | ⟨n, at_n, -, -, expires⟩ | ⟨n, at_n, above, counted, runs⟩
  rotate_left
  · rw [expires, if_pos rfl, SpeakerProt.count, if_pos expires]
    exact SpeakerProt.recover_sound (by rw [at_n]; rfl) h
  · rw [runs, SpeakerProt.count_of_runs runs, counted, if_neg Bool.false_ne_true]
    obtain ⟨gates, retry, window, retry_range, -, repeats, escalated, counter, report⟩ := h
    have tripped : p.state = .tripped := retry.mp (by rw [at_n]; rfl)
    have no_window : p.window = none := by
      by_contra some_window
      have normal := window (Option.isSome_iff_ne_none.mpr some_window)
      rw [tripped] at normal
      cases normal
    rw [no_window, countDown_none, expiresNext_none, if_neg Bool.false_ne_true]
    refine ⟨gates, ⟨fun _ => tripped, fun _ => rfl⟩, nofun, fun m hm => ?_, nofun, repeats, escalated, counter,
      report⟩
    have := retry_range n at_n
    cases hm
    omega
  · have retry_stays : countDown p.retry = p.retry := by rw [stopped, countDown_none]
    rw [runs, SpeakerProt.count_of_runs runs, retry_stays, if_neg Bool.false_ne_true]
    rcases countDown_cases p.window with ⟨none_left, -, runs⟩ | ⟨m, at_m, -, e, expires⟩ | ⟨m, at_m, above, e, runs⟩
    · have window_stays : countDown p.window = p.window := by rw [none_left, countDown_none]
      rw [window_stays, runs, if_neg Bool.false_ne_true]
      exact h
    · rw [e, expires, if_pos rfl]
      exact SpeakerProt.windowOver_sound (by rw [at_m]; rfl) h
    · rw [e, runs, if_neg Bool.false_ne_true]
      obtain ⟨gates, retry, window, retry_range, window_range, repeats, escalated, counter, report⟩ := h
      refine ⟨gates, retry, fun _ => window (by rw [at_m]; rfl), retry_range, fun j hj => ?_, repeats, escalated,
        counter, report⟩
      have := window_range m at_m
      cases hj
      omega

/-- An overload event on a NORMAL speaker leaves it sound, its gate closed by every mode but REPORT
(R149 to R152). -/
theorem SpeakerProt.overloaded_sound {p : SpeakerProt} {gate summary : Bool} {e : SpeakerEntry}
    (opened : gate = true) (on : e.protMode ≠ .off) (h : p.sound gate e summary) :
    (p.overloaded e.protMode).sound (if e.protMode.closes = true then false else gate) e true := by
  have deglitch := p.deglitch_pos h
  obtain ⟨gates, retry, window, retry_range, window_range, repeats, escalated, counter, -⟩ := h
  have normal := gates.mp opened
  have few : p.repeats < 4 := by
    refine Nat.lt_of_le_of_ne repeats fun four => ?_
    have latched := escalated.mp four
    rw [normal] at latched
    cases latched
  have after : p.repeatsAfter ≤ 4 := by
    unfold SpeakerProt.repeatsAfter
    split <;> omega
  have no_retry : p.retry = none := by
    by_contra some_retry
    have tripped := retry.mp (Option.isSome_iff_ne_none.mpr some_retry)
    rw [normal] at tripped
    cases tripped
  have tripped {ms : Nat} (range : 1 ≤ ms ∧ ms ≤ 500) :
      SpeakerProt.sound { p.trip ms with counter := 0 } false e true := by
    unfold SpeakerProt.trip
    split
    · next below =>
      refine ⟨⟨nofun, nofun⟩, ⟨fun _ => rfl, fun _ => rfl⟩, nofun, fun n hn => ?_, nofun, after,
        ⟨fun four => absurd four (Nat.ne_of_lt below), nofun⟩, deglitch, fun _ => rfl⟩
      cases hn
      exact range
    · next reached =>
      exact ⟨⟨nofun, nofun⟩, ⟨nofun, nofun⟩, nofun, nofun, nofun, after,
        ⟨fun _ => rfl, fun _ => Nat.le_antisymm after (Nat.not_lt.mp reached)⟩, deglitch, fun _ => rfl⟩
  cases mode : e.protMode with
  | off => exact absurd mode on
  | report => exact ⟨gates, retry, window, retry_range, window_range, repeats, escalated, counter, fun _ => rfl⟩
  | retryFast => exact tripped (by decide)
  | retrySlow => exact tripped (by decide)
  | latch =>
    refine ⟨⟨nofun, nofun⟩, ⟨fun some_retry => ?_, nofun⟩, nofun, fun n hn => ?_, nofun, repeats,
      ⟨fun four => absurd four (Nat.ne_of_lt few), nofun⟩, deglitch, fun _ => rfl⟩
    · have some_retry : p.retry.isSome = true := some_retry
      rw [no_retry] at some_retry
      cases some_retry
    · have hn : p.retry = some n := hn
      rw [no_retry] at hn
      cases hn

/-- The summary flag may stand without anything to report. -/
theorem SpeakerProt.sound_of_summary {p : SpeakerProt} {gate summary summary' : Bool} {e : SpeakerEntry}
    (kept : summary = true → summary' = true) (h : p.sound gate e summary) : p.sound gate e summary' := by
  obtain ⟨gates, retry, window, retry_range, window_range, repeats, escalated, counter, report⟩ := h
  exact ⟨gates, retry, window, retry_range, window_range, repeats, escalated, counter,
    fun something => kept (report something)⟩

/-! ### One port -/

theorem PortThermal.ofLine_sound (asserted : Bool) : (PortThermal.ofLine asserted).sound := by
  refine ⟨⟨nofun, fun h => ?_⟩, nofun⟩
  cases asserted <;> cases h

theorem PortThermal.sample_sound {p : PortThermal} (asserted : Bool) (h : p.sound) :
    (p.sample asserted).sound := by
  obtain ⟨state, hold⟩ := p
  obtain ⟨running, range⟩ := id h
  cases state <;> cases asserted
  · exact h
  · refine ⟨⟨fun some_hold => ?_, nofun⟩, range⟩
    cases running.mp some_hold
  · exact ⟨⟨fun _ => rfl, fun _ => rfl⟩, fun n hn => by cases hn; decide⟩
  · exact h
  · exact h
  · exact ⟨⟨nofun, nofun⟩, nofun⟩

theorem PortThermal.count_sound {p : PortThermal} (h : p.sound) : p.count.sound := by
  obtain ⟨running, range⟩ := id h
  rcases countDown_cases p.hold with ⟨stopped, e, runs⟩ | ⟨_, -, -, -, expires⟩ | ⟨n, at_n, above, e, runs⟩
  · rw [PortThermal.count, if_neg (Bool.eq_false_iff.mp runs), e, ← stopped]
    exact h
  · rw [PortThermal.count, if_pos expires]
    exact ⟨⟨nofun, nofun⟩, nofun⟩
  · rw [PortThermal.count, if_neg (Bool.eq_false_iff.mp runs), e]
    have in_range := range n at_n
    refine ⟨⟨fun _ => running.mp (by rw [at_n]; rfl), fun _ => rfl⟩, fun m hm => ?_⟩
    cases hm
    omega

theorem PortThermal.millisecond_sound {p : PortThermal} (asserted : Bool) (h : p.sound) :
    (p.millisecond asserted).sound := by
  unfold PortThermal.millisecond
  split
  · exact PortThermal.sample_sound asserted h
  · exact PortThermal.count_sound (PortThermal.sample_sound asserted h)

/-! ### Every command -/

theorem State.clearProtection_keeps_protectionInv {s : State} (hs : ProtectionInv s) :
    ProtectionInv s.clearProtection := by
  obtain ⟨speakers, ports⟩ := hs
  refine ⟨fun sp => ?_, ports⟩
  simp only [State.clearProtection, replicate_get]
  exact SpeakerProt.clear_sound _ (SpeakerProt.deglitch_pos (speakers sp))

/-- The reset of the Protection Monitor, for any speaker entries. -/
theorem protectionInv_of_reset {t : State} {awarn : Vector Bool 3} (prot : t.prot = .reset awarn)
    (gates : t.mixer.gates = Vector.replicate 24 true)
    (deglitch : ∀ sp : SpeakerId, 1 ≤ (t.cabin.speakers[sp]).deglitch) : ProtectionInv t := by
  refine (protectionInv_iff t).mpr ⟨fun sp => ?_, fun port => ?_⟩
  · rw [prot, gates]
    simp only [Protection.reset, replicate_get]
    exact SpeakerProt.clear_sound _ (deglitch sp)
  · rw [prot]
    simp only [Protection.reset, ofFn_get]
    exact PortThermal.ofLine_sound _

theorem powerOn_protectionInv (lines : Lines) : ProtectionInv (State.powerOn lines) :=
  protectionInv_of_reset rfl rfl fun sp => by
    obtain ⟨speakers, -⟩ := powerOn_cabinInv lines
    obtain ⟨-, -, -, deglitch, -⟩ := speakers sp
    exact deglitch

theorem Takes.keeps_protectionInv {k : Kind} {lane : LaneId} {fs : List Field} {s t : State}
    (h : Takes k lane fs s t) (hs : ProtectionInv s) : ProtectionInv t := by
  cases h with
  | clearProtection => exact State.clearProtection_keeps_protectionInv hs
  | speaker _ _ _ sp e _ _ entry =>
    obtain ⟨-, -, -, deglitch, -⟩ := speakerEntryField_range entry
    obtain ⟨speakers, ports⟩ := hs
    refine ⟨fun other => ?_, ports⟩
    simp only [State.loadSpeaker, upd_get]
    split
    · exact SpeakerProt.sound_of_counter deglitch (speakers other)
    · exact speakers other
  | _ => exact ProtectionInv.congr (s := s) rfl rfl rfl hs

theorem State.overloadAll_keeps_protectionInv {s : State} {l : List SpeakerId} (nodup : l.Nodup)
    (watched : ∀ sp ∈ l, s.mixer.gates[sp] = true ∧ (s.cabin.speakers[sp]).protMode ≠ .off)
    (hs : ProtectionInv s) : ProtectionInv (s.overloadAll l) := by
  obtain ⟨speakers, ports⟩ := hs
  obtain ⟨frame, entry, summary, -⟩ := s.overloadAll_acts nodup
  have cabin : (s.overloadAll l).cabin = s.cabin := by rw [frame]
  have same_ports : (s.overloadAll l).prot.ports = s.prot.ports := by rw [frame]
  refine (protectionInv_iff _).mpr ⟨fun sp => ?_, fun port => by rw [same_ports]; exact ports port⟩
  obtain ⟨items, gate, -, -⟩ := entry sp
  rw [items, gate, cabin]
  by_cases acts : sp ∈ l
  · obtain ⟨opened, on⟩ := watched sp acts
    have now : (s.overloadAll l).prot.summary = true := summary.mpr (.inr ⟨sp, acts, on⟩)
    simp only [acts, if_true, true_and, now]
    exact SpeakerProt.overloaded_sound opened on (speakers sp)
  · simp only [acts, if_false, false_and]
    exact SpeakerProt.sound_of_summary (fun h => summary.mpr (.inl h)) (speakers sp)

theorem State.backForFrame_keeps_protectionInv {s : State} (hs : ProtectionInv s) :
    ProtectionInv s.backForFrame := by
  unfold State.backForFrame
  split
  · obtain ⟨speakers, ports⟩ := hs
    have returned : ProtectionInv { s with prot := { s.prot with speakers := Vector.ofFn fun sp =>
        { s.prot.speakers[sp] with counter := 0 } } } := by
      refine ⟨fun sp => ?_, ports⟩
      simp only [ofFn_get]
      exact SpeakerProt.sound_of_counter (SpeakerProt.deglitch_pos (speakers sp)) (speakers sp)
    unfold State.returnOfFrames
    dsimp only
    split
    · exact ProtectionInv.congr rfl rfl rfl returned
    · exact ProtectionInv.congr rfl rfl rfl returned
  · exact hs

theorem State.countOverloads_speaker (s : State) (sp : SpeakerId) :
    s.countOverloads.prot.speakers[sp] =
      if s.detects sp then
        { s.prot.speakers[sp] with
          counter := if s.overloads sp then 0
            else (s.prot.speakers[sp]).counted (s.cabin.speakers[sp]) s.mixer.held[sp] }
      else s.prot.speakers[sp] := by
  rw [State.countOverloads, ofFn_get]

/-- The detectors' counts stay below the deglitch: one that reaches it makes an event and is 0 (R148). -/
theorem State.countOverloads_keeps_protectionInv {s : State} (hs : ProtectionInv s) :
    ProtectionInv s.countOverloads := by
  obtain ⟨speakers, ports⟩ := (protectionInv_iff s).mp hs
  have kept (sp : SpeakerId) : (s.countOverloads.prot.speakers[sp]).sound s.mixer.gates[sp]
      s.cabin.speakers[sp] s.prot.summary := by
    rw [State.countOverloads_speaker]
    split
    · next detects =>
      refine SpeakerProt.sound_of_counter ?_ (speakers sp)
      split
      · exact SpeakerProt.deglitch_pos (speakers sp)
      · next no_event =>
        have reached : (s.prot.speakers[sp]).counted s.cabin.speakers[sp] s.mixer.held[sp]
            ≤ (s.cabin.speakers[sp]).deglitch := by
          obtain ⟨-, -, -, -, -, -, -, counter, -⟩ := speakers sp
          unfold SpeakerProt.counted
          split <;> omega
        refine Nat.lt_of_le_of_ne reached fun at_deglitch => no_event ?_
        rw [State.overloads, detects, at_deglitch, decide_eq_true rfl, Bool.and_self]
    · exact speakers sp
  rw [State.countOverloads] at kept ⊢
  exact ⟨kept, ports⟩

/-- Forming a frame's outputs leaves the Protection Monitor, gates and speaker entries alone. -/
theorem State.produced_keeps_protectionInv {s : State} (samples : Vector Sample 16) (hs : ProtectionInv s) :
    ProtectionInv (s.advanceGlides.produceFrame samples) := by
  rw [State.produceFrame, State.advanceGlides]
  exact ProtectionInv.congr (s := s) rfl rfl rfl hs

theorem State.endFrame_keeps_protectionInv {s : State} (hs : ProtectionInv s) :
    ProtectionInv { s with mixer := { s.mixer with inFrame := false } } :=
  ProtectionInv.congr (s := s) rfl rfl rfl hs

theorem State.frame_keeps_protectionInv {s : State} (samples : Vector Sample 16) (hs : ProtectionInv s) :
    ProtectionInv (s.frame samples) := by
  have made : ProtectionInv (s.madeFrame samples) :=
    State.produced_keeps_protectionInv samples (State.backForFrame_keeps_protectionInv hs)
  have counted : ProtectionInv (s.countedFrame samples) := by
    refine State.overloadAll_keeps_protectionInv ((List.nodup_finRange 24).filter _) (fun sp hsp => ?_)
      (State.countOverloads_keeps_protectionInv made)
    have event := (List.mem_filter.mp hsp).2
    simp only [State.overloads, State.detects, Bool.and_eq_true, decide_eq_true_eq] at event
    exact event.1
  rw [State.frame_eq]
  exact State.endFrame_keeps_protectionInv counted

theorem State.setProt_keeps_protectionInv {s : State} {sp : SpeakerId} {f : SpeakerProt → SpeakerProt}
    (kept : (s.prot.speakers[sp]).sound s.mixer.gates[sp] s.cabin.speakers[sp] s.prot.summary →
      (f s.prot.speakers[sp]).sound s.mixer.gates[sp] s.cabin.speakers[sp] s.prot.summary)
    (hs : ProtectionInv s) : ProtectionInv (s.setProt sp f) := by
  obtain ⟨speakers, ports⟩ := hs
  refine ⟨fun other => ?_, ports⟩
  simp only [State.setProt, upd_get]
  split
  · next e =>
    subst e
    exact kept (speakers other)
  · exact speakers other

theorem Event.keeps_protectionInv {c : Instr} {s t : State} (h : Event c s t) (hs : ProtectionInv s) :
    ProtectionInv t := by
  have ⟨speakers, ports⟩ := (protectionInv_iff s).mp hs
  cases h with
  | powerOn lines => exact powerOn_protectionInv lines
  | rstNRelease lines => exact ProtectionInv.congr rfl rfl rfl (powerOn_protectionInv lines)
  | standby _ awarn =>
    exact protectionInv_of_reset (awarn := awarn) rfl rfl fun sp => SpeakerProt.deglitch_pos (speakers sp)
  | clearPulse =>
    exact State.clearProtection_keeps_protectionInv (ProtectionInv.congr (s := s) rfl rfl rfl hs)
  | frame samples _ _ framed _ => exact framed ▸ State.frame_keeps_protectionInv samples hs
  | overload sp _ _ gate mode acted _ =>
    have counted : ProtectionInv (s.setProt sp fun p => { p with counter := 0 }) :=
      State.setProt_keeps_protectionInv
        (fun h => SpeakerProt.sound_of_counter (SpeakerProt.deglitch_pos h) h) hs
    rw [← acted]
    exact State.overloadAll_keeps_protectionInv (List.nodup_singleton sp)
      (fun other only => by rw [List.mem_singleton.mp only]; exact ⟨gate, mode⟩) counted
  | retryExpiry sp _ running =>
    refine ⟨fun other => ?_, ports⟩
    simp only [State.setProt, upd_get]
    split
    · next e =>
      subst e
      exact SpeakerProt.recover_sound running (speakers other)
    · exact speakers other
  | windowExpiry sp _ running =>
    exact State.setProt_keeps_protectionInv (fun h => SpeakerProt.windowOver_sound running h) hs
  | awarnSample awarn =>
    refine (protectionInv_iff _).mpr ⟨fun sp => ?_, fun port => ?_⟩
    · simp only [State.protMillisecond, ofFn_get]
      exact SpeakerProt.count_sound (speakers sp)
    · simp only [State.protMillisecond, ofFn_get]
      exact PortThermal.millisecond_sound _ (ports port)
  | thermalExpiry port =>
    refine (protectionInv_iff _).mpr ⟨speakers, fun other => ?_⟩
    simp only [upd_get]
    split
    · exact ⟨⟨nofun, nofun⟩, nofun⟩
    · exact ports other
  | _ => exact ProtectionInv.congr (s := s) rfl rfl rfl hs

theorem step_keeps_protectionInv {s t : State} (h : step s = .next t) (hs : ProtectionInv s) :
    ProtectionInv t :=
  step_keeps (fun _ _ h => h) (exec_keeps (fun _ _ h => h) Takes.keeps_protectionInv Event.keeps_protectionInv)
    h hs

/-- Settles O58. -/
theorem protectionStaysSound : Obligations.ProtectionStaysSound := fun _ _ prot h => step_keeps_protectionInv h prot

end Sys2Proof.Machine
end

section
/-! PROOF. The grid under every command: what each stage of a pass keeps of a column, that silent cells of
FREE slots, absent speakers and reported routes stay silent, and from them the invariant. -/
namespace Sys2Proof.Machine

/-- One cell of a column is in range, and its lane and marks agree (R86, R112). -/
def Column.cellSound (col : Column) (i : SlotId) : Prop :=
  -480 ≤ (col.cells[i]).target ∧ (col.cells[i]).target ≤ 48
  ∧ -480 ≤ (col.cells[i]).applied ∧ (col.cells[i]).applied ≤ 48
  ∧ (col.holds i = false → (col.cells[i]).applied = -480)
  ∧ ((col.cells[i]).yielding = true → col.holds i = true)
  ∧ ((col.cells[i]).waiting = true → col.holds i = false)

/-- A cell holds one lane at most (R112). -/
def Column.oneLane (col : Column) : Prop :=
  ∀ (i : SlotId) (k k' : MixId), col.lanes[k] = some i → col.lanes[k'] = some i → k = k'

/-- The cell of a slot is silent and holds no lane. -/
def Column.silentAt (col : Column) (i : SlotId) : Prop := col.cells[i] = Cell.silent ∧ col.holds i = false

theorem gridInv_iff (s : State) :
    GridInv s ↔ (∀ sp : SpeakerId, (∀ i : SlotId, (s.grid[sp]).cellSound i) ∧ (s.grid[sp]).oneLane)
      ∧ (∀ i : SlotId, s.routeAt i = none → s.slotSilent i)
      ∧ (∀ rep, s.table.report = some rep → ∀ h ∈ rep.silent, s.slotSilent h.slot)
      ∧ ∀ sp : SpeakerId, (s.cabin.speakers[sp]).present = false → ∀ i : SlotId, (s.grid[sp]).silentAt i := by
  constructor
  · rintro ⟨cells, lanes, free, report, absent⟩
    exact ⟨fun sp => ⟨cells sp, lanes sp⟩, free, report, absent⟩
  · rintro ⟨columns, free, report, absent⟩
    exact ⟨fun sp => (columns sp).1, fun sp => (columns sp).2, free, report, absent⟩

/-- The invariant reads the grid, the report, the presence of speakers and which slots are FREE. -/
theorem GridInv.congr {s t : State} (grid : t.grid = s.grid) (report : t.table.report = s.table.report)
    (speakers : t.cabin.speakers = s.cabin.speakers)
    (free : ∀ i : SlotId, t.routeAt i = none → s.routeAt i = none) (hs : GridInv s) : GridInv t := by
  obtain ⟨cells, lanes, silent, reported, absent⟩ := hs
  have same (i : SlotId) : t.slotSilent i = s.slotSilent i := by simp only [State.slotSilent, grid]
  refine ⟨by rwa [grid], by rwa [grid], fun i hi => ?_, fun rep hrep h hh => ?_, by rwa [grid, speakers]⟩
  · rw [same]
    exact silent i (free i hi)
  · rw [same]
    exact reported rep (report ▸ hrep) h hh

/-- A change that leaves the whole table alone. -/
theorem GridInv.congr_table {s t : State} (grid : t.grid = s.grid) (table : t.table = s.table)
    (speakers : t.cabin.speakers = s.cabin.speakers) (hs : GridInv s) : GridInv t :=
  GridInv.congr grid (congrArg RouteTable.report table) speakers
    (fun i h => by rwa [State.routeAt, table] at h) hs

/-! ### Arbitration -/

theorem Column.oneLane_congr {col col' : Column} (h : col'.lanes = col.lanes) (one : col.oneLane) :
    col'.oneLane := by
  rw [Column.oneLane, h]
  exact one

theorem Column.release_oneLane {col : Column} (one : col.oneLane) : col.release.oneLane :=
  fun i k k' hk hk' =>
    one i k k' (Column.release_lane_eq_some.mp hk).1 (Column.release_lane_eq_some.mp hk').1

theorem Column.candidate_unheld {col : Column} {i : SlotId} (h : col.candidate i = true) :
    col.holds i = false := by
  rw [Column.candidate, Bool.and_eq_true, Bool.not_eq_true'] at h
  exact h.2

theorem Column.candidate_needs {col : Column} {i : SlotId} (h : col.candidate i = true) :
    -480 < (col.cells[i]).target := by
  rw [Column.candidate, Bool.and_eq_true, Cell.needs, decide_eq_true_iff] at h
  exact h.1

theorem Column.give_oneLane {col : Column} {k : MixId} {i : SlotId} (unheld : col.holds i = false)
    (one : col.oneLane) : (col.give k i).oneLane := by
  have lane (k' : MixId) : (col.give k i).lanes[k'] = if k' = k then some i else col.lanes[k'] := upd_get ..
  have elsewhere (k' : MixId) : col.lanes[k'] ≠ some i := fun h => by
    rw [Column.holds_iff.mpr ⟨k', h⟩] at unheld
    cases unheld
  intro j k₁ k₂ h₁ h₂
  rw [lane] at h₁ h₂
  split at h₁
  · next e₁ =>
    cases h₁
    split at h₂
    · next e₂ => rw [e₁, e₂]
    · exact absurd h₂ (elsewhere k₂)
  · split at h₂
    · cases h₂
      exact absurd h₁ (elsewhere k₁)
    · exact one j k₁ k₂ h₁ h₂

theorem Column.grant_oneLane {col : Column} (l : List SlotId) (one : col.oneLane) : (col.grant l).oneLane := by
  induction l generalizing col with
  | nil => exact one
  | cons i rest ih =>
    rcases col.grant_cons_cases i rest with ⟨k, candidate, -, e⟩ | ⟨-, e⟩ <;> rw [e]
    · exact ih (Column.give_oneLane (Column.candidate_unheld candidate) one)
    · exact ih one

/-- A cell that needs no lane is granted none. -/
theorem Column.grant_holds_of_silent {col : Column} {i : SlotId} (l : List SlotId)
    (silent : (col.cells[i]).target ≤ -480) (unheld : col.holds i = false) : (col.grant l).holds i = false := by
  induction l generalizing col with
  | nil => exact unheld
  | cons j rest ih =>
    rcases col.grant_cons_cases j rest with ⟨k, candidate, hk, e⟩ | ⟨-, e⟩ <;> rw [e]
    · refine ih silent (Bool.eq_false_iff.mpr fun held => ?_)
      rcases (Column.give_holds (Column.freeLane_isNone hk) j i).mp held with rfl | held
      · have := Column.candidate_needs candidate
        omega
      · rw [unheld] at held
        cases held
    · exact ih silent unheld

theorem Column.lowestUnmarked_spec {col : Column} {ranked : List SlotId} {i : SlotId}
    (h : col.lowestUnmarked ranked = some i) :
    i ∈ ranked ∧ col.holds i = true ∧ (col.cells[i]).yielding = false := by
  have mem := List.mem_of_getLast? h
  rw [List.mem_filter, Bool.and_eq_true, Bool.not_eq_true'] at mem
  exact mem

/-- The yield step marks holders alone (R118). -/
theorem Column.yieldFor_marked {ranked l : List SlotId} {i : SlotId} (col : Column)
    (h : ((Column.yieldFor ranked col l).1.cells[i]).yielding = true) :
    (col.cells[i]).yielding = true ∨ col.holds i = true := by
  fun_induction Column.yieldFor ranked col l with
  | case1 | case2 | case4 => exact .inl h
  | case3 col cand rest holder lowest _ t ih =>
    obtain ⟨-, held, -⟩ := Column.lowestUnmarked_spec lowest
    rcases ih h with marked | held'
    · rw [Column.markYielding_cell] at marked
      split at marked
      · next e => exact .inr (e ▸ held)
      · exact .inl marked
    · exact .inr held'

theorem Column.yield_marked {col : Column} {ranked : List SlotId} {i : SlotId}
    (h : ((col.yield ranked).1.cells[i]).yielding = true) :
    (col.cells[i]).yielding = true ∨ col.holds i = true := Column.yieldFor_marked col h

/-- The yield step leaves a cell that holds no lane as it is. -/
theorem Column.yieldFor_cell_of_unheld {ranked l : List SlotId} {i : SlotId} (col : Column)
    (unheld : col.holds i = false) : (Column.yieldFor ranked col l).1.cells[i] = col.cells[i] := by
  fun_induction Column.yieldFor ranked col l with
  | case1 | case2 | case4 => rfl
  | case3 col cand rest holder lowest _ t ih =>
    obtain ⟨-, held, -⟩ := Column.lowestUnmarked_spec lowest
    have other : i ≠ holder := by
      rintro rfl
      rw [unheld] at held
      cases held
    have unheld' : (col.markYielding holder).holds i = false := by
      rw [Column.holds_congr (col := col) (by rw [Column.markYielding])]
      exact unheld
    rw [ih unheld', Column.markYielding_cell, if_neg other]

theorem Column.arbitrate_waiting (col : Column) (ranked : List SlotId) (i : SlotId) :
    ((col.arbitrate ranked).column.cells[i]).waiting = true ↔
      -480 < (col.cells[i]).target ∧ (col.arbitrate ranked).column.holds i = false := by
  have target := (Cell.gains_eq_iff.mp (col.arbitrate_gains ranked i)).1
  rw [Column.arbitrate_column, Column.markWaiting_cell] at target ⊢
  rw [Column.markWaiting_holds, ← target, Column.candidate, Cell.needs]
  simp only [Bool.and_eq_true, decide_eq_true_eq, Bool.not_eq_true']

/-- Arbitration keeps a column's cells sound: a cell it leaves without a lane was at -480 without one, or
was released at -480 (R113, R116). -/
theorem Column.arbitrate_cellSound {col : Column} (ranked : List SlotId) {i : SlotId}
    (h : col.cellSound i) : (col.arbitrate ranked).column.cellSound i := by
  obtain ⟨target_lo, target_hi, applied_lo, applied_hi, unheld_silent, marked_holds, -⟩ := h
  obtain ⟨target, applied⟩ := Cell.gains_eq_iff.mp (col.arbitrate_gains ranked i)
  have waits := col.arbitrate_waiting ranked i
  unfold Column.cellSound
  rw [target, applied]
  refine ⟨target_lo, target_hi, applied_lo, applied_hi, fun unheld => ?_, fun marked => ?_,
    fun waiting => (waits.mp waiting).2⟩
  · rw [Column.arbitrate_holds] at unheld
    cases held : col.holds i with
    | false => exact unheld_silent held
    | true =>
      have released : col.release.holds i = false :=
        Bool.eq_false_iff.mpr fun stays => by rw [Column.holds_grant stays] at unheld; cases unheld
      rw [Column.release_holds, held, Bool.true_and, Bool.not_eq_false'] at released
      rw [Cell.releases, Bool.and_eq_true, decide_eq_true_iff] at released
      exact released.1
  · rw [Column.arbitrate_holds]
    rw [Column.arbitrate_column, Column.markWaiting_cell] at marked
    rcases Column.yield_marked marked with marked | held
    · rw [Column.grant_cells] at marked
      refine Column.holds_grant ?_ ranked
      by_contra unheld
      rw [Column.release_yielding_of_unheld marked_holds (Bool.eq_false_iff.mpr unheld)] at marked
      cases marked
    · exact held

theorem Column.arbitrate_oneLane {col : Column} (ranked : List SlotId) (one : col.oneLane) :
    (col.arbitrate ranked).column.oneLane := by
  have lanes : (col.arbitrate ranked).column.lanes = (col.release.grant ranked).lanes := by
    rw [Column.arbitrate_column, Column.markWaiting, Column.yield_lanes]
  exact Column.oneLane_congr lanes (Column.grant_oneLane ranked (Column.release_oneLane one))

/-- A silent cell without a lane is left as it is. -/
theorem Column.arbitrate_silentAt {col : Column} (ranked : List SlotId) {i : SlotId} (h : col.silentAt i) :
    (col.arbitrate ranked).column.silentAt i := by
  obtain ⟨cell, unheld⟩ := h
  have released : col.release.holds i = false := by rw [Column.release_holds, unheld, Bool.false_and]
  have same : col.release.cells[i] = Cell.silent := by
    rw [Column.release_cell, unheld, Bool.false_and, if_neg Bool.false_ne_true, cell]
  have granted : (col.release.grant ranked).holds i = false :=
    Column.grant_holds_of_silent ranked (by rw [same]; decide) released
  refine ⟨?_, by rw [Column.arbitrate_holds, granted]⟩
  have yielded : ((col.release.grant ranked).yield ranked).1.cells[i] = Cell.silent := by
    rw [Column.yield, Column.yieldFor_cell_of_unheld _ granted, Column.grant_cells, same]
  rw [Column.arbitrate_column, Column.markWaiting_cell, Column.candidate, yielded]
  rfl

/-! ### Targets -/

theorem State.targetOf_range (s : State) (i : SlotId) (r : Route) (sp : SpeakerId) :
    -480 ≤ s.targetOf i r sp ∧ s.targetOf i r sp ≤ 48 := by
  have silent : (-480 : Int) ≤ -480 ∧ (-480 : Int) ≤ 48 := by decide
  unfold State.targetOf
  split
  · exact silent
  · split
    · exact silent
    · split
      · split
        · exact silent
        · exact clampTo_bounds (by decide) _
      · exact silent

theorem State.targetOf_of_silenced {s : State} {i : SlotId} {r : Route} {sp : SpeakerId}
    (h : ∀ z, s.silencedCell r sp z = true) : s.targetOf i r sp = -480 := by
  unfold State.targetOf
  split
  · rfl
  · rw [if_pos (h _)]

theorem State.silencedCell_of_closing {s : State} {r : Route} {sp : SpeakerId} (h : r.state = .closing)
    (z : Zone) : s.silencedCell r sp z = true := by
  simp only [State.silencedCell, h, decide_true, Bool.true_or]

theorem State.silencedCell_of_absent {s : State} {r : Route} {sp : SpeakerId}
    (h : (s.cabin.speakers[sp]).present = false) (z : Zone) : s.silencedCell r sp z = true := by
  simp only [State.silencedCell, h, Bool.not_false, Bool.or_true, Bool.true_or]

/-- The target stage at one cell: -480 for both gains at a speaker not NORMAL, and otherwise the route's
target (R92, R97). -/
theorem State.targetCell_cases (s : State) (sp : SpeakerId) (i : SlotId) (c : Cell) :
    s.targetCell sp i c = { c with target := -480, applied := -480 }
    ∨ (∃ r, s.routeAt i = some r ∧ s.targetCell sp i c = { c with target := s.targetOf i r sp })
    ∨ s.routeAt i = none ∧ s.targetCell sp i c = c := by
  unfold State.targetCell
  split
  · exact .inl rfl
  · split
    · next r hr => exact .inr (.inl ⟨r, hr, rfl⟩)
    · next free => exact .inr (.inr ⟨free, rfl⟩)

theorem State.targetColumn_cellSound {s : State} {sp : SpeakerId} {col : Column} {i : SlotId}
    (h : col.cellSound i) : (s.targetColumn sp col).cellSound i := by
  obtain ⟨target_lo, target_hi, applied_lo, applied_hi, unheld_silent, marked_holds, waits_unheld⟩ := h
  unfold Column.cellSound
  rw [State.targetColumn_holds, State.targetColumn_cell]
  have silent : (-480 : Int) ≤ -480 ∧ (-480 : Int) ≤ 48 := by decide
  rcases s.targetCell_cases sp i col.cells[i] with e | ⟨r, -, e⟩ | ⟨-, e⟩ <;> rw [e]
  · exact ⟨silent.1, silent.2, silent.1, silent.2, fun _ => rfl, marked_holds, waits_unheld⟩
  · exact ⟨(s.targetOf_range i r sp).1, (s.targetOf_range i r sp).2, applied_lo, applied_hi, unheld_silent,
      marked_holds, waits_unheld⟩
  · exact ⟨target_lo, target_hi, applied_lo, applied_hi, unheld_silent, marked_holds, waits_unheld⟩

theorem State.targetColumn_oneLane {s : State} {sp : SpeakerId} {col : Column} (one : col.oneLane) :
    (s.targetColumn sp col).oneLane := Column.oneLane_congr (by rw [State.targetColumn]) one

/-- A silent cell stays silent unless its route sounds here. -/
theorem State.targetColumn_silentAt {s : State} {sp : SpeakerId} {col : Column} {i : SlotId}
    (quiet : ∀ r, s.routeAt i = some r → s.targetOf i r sp = -480) (h : col.silentAt i) :
    (s.targetColumn sp col).silentAt i := by
  obtain ⟨cell, unheld⟩ := h
  refine ⟨?_, by rw [State.targetColumn_holds, unheld]⟩
  rw [State.targetColumn_cell, cell]
  rcases s.targetCell_cases sp i .silent with e | ⟨r, hr, e⟩ | ⟨-, e⟩ <;> rw [e]
  · rfl
  · rw [quiet r hr]
    rfl

/-! ### The ramp step -/

theorem rampCell_waiting (ramps : Vector RampProfile 8) (r : Route) (holds : Bool) (c : Cell) :
    (rampCell ramps r holds c).waiting = c.waiting := by
  unfold rampCell
  split_ifs <;> rfl

theorem rampCell_range {ramps : Vector RampProfile 8} {r : Route} {c : Cell}
    (rates : 1 ≤ (ramps[r.ramp]).rise ∧ 1 ≤ (ramps[r.ramp]).fall) (holds : Bool)
    (target : -480 ≤ c.target ∧ c.target ≤ 48) (applied : -480 ≤ c.applied ∧ c.applied ≤ 48) :
    -480 ≤ (rampCell ramps r holds c).applied ∧ (rampCell ramps r holds c).applied ≤ 48 := by
  have step : (rampCell ramps r holds c).applied = -480
      ∨ (rampCell ramps r holds c).applied = max (c.applied - 48) (-480)
      ∨ (rampCell ramps r holds c).applied = min (c.applied + (ramps[r.ramp]).rise) c.target
      ∨ (rampCell ramps r holds c).applied = max (c.applied - (ramps[r.ramp]).fall) c.target
      ∨ (rampCell ramps r holds c).applied = c.applied := by
    unfold rampCell
    split_ifs <;> simp only [true_or, or_true]
  omega

theorem State.rampColumn_cell_free {s : State} {i : SlotId} (free : s.routeAt i = none) (col : Column) :
    (s.rampColumn col).cells[i] = col.cells[i] := by
  have cell : (s.rampColumn col).cells[i] = match s.routeAt i with
      | some r => rampCell s.ramps r (col.holds i) col.cells[i]
      | none => col.cells[i] := ofFn_get _ i
  rw [cell, free]

theorem State.rampColumn_cellSound {s : State} (rates : ∀ p : Fin 8, 1 ≤ (s.ramps[p]).rise ∧ 1 ≤ (s.ramps[p]).fall)
    {col : Column} {i : SlotId} (h : col.cellSound i) : (s.rampColumn col).cellSound i := by
  cases hr : s.routeAt i with
  | none =>
    unfold Column.cellSound
    rw [State.rampColumn_holds, State.rampColumn_cell_free hr]
    exact h
  | some r =>
    obtain ⟨target_lo, target_hi, applied_lo, applied_hi, -, marked_holds, waits_unheld⟩ := h
    obtain ⟨lo, hi⟩ := rampCell_range (rates r.ramp) (col.holds i) ⟨target_lo, target_hi⟩
      ⟨applied_lo, applied_hi⟩
    unfold Column.cellSound
    rw [State.rampColumn_holds, State.rampColumn_cell hr, rampCell_target, rampCell_yielding, rampCell_waiting]
    exact ⟨target_lo, target_hi, lo, hi, fun unheld => by rw [unheld, rampCell_unheld], marked_holds,
      waits_unheld⟩

theorem State.rampColumn_oneLane {s : State} {col : Column} (one : col.oneLane) : (s.rampColumn col).oneLane :=
  Column.oneLane_congr (by rw [State.rampColumn]) one

theorem State.rampColumn_silentAt {s : State} {col : Column} {i : SlotId} (h : col.silentAt i) :
    (s.rampColumn col).silentAt i := by
  obtain ⟨cell, unheld⟩ := h
  refine ⟨?_, by rw [State.rampColumn_holds, unheld]⟩
  cases hr : s.routeAt i with
  | none => rw [State.rampColumn_cell_free hr, cell]
  | some r =>
    rw [State.rampColumn_cell hr, unheld, cell]
    rfl

/-! ### The pass -/

theorem State.passGrid_get (s : State) (sp : SpeakerId) :
    s.passGrid[sp] = s.rampColumn (s.passArbitrated sp).column := by
  rw [State.passGrid, ofFn_get]

theorem State.spilled_routeAt (s : State) : s.spilled.routeAt = s.routeAt := by
  funext i
  simp only [State.routeAt, State.spilled]

theorem State.spilled_cabin (s : State) : s.spilled.cabin = s.cabin := by rw [State.spilled]

theorem State.passArbitrated_cellSound {s : State} {sp : SpeakerId} {i : SlotId}
    (h : (s.grid[sp]).cellSound i) : (s.passArbitrated sp).column.cellSound i := by
  cases hp : (s.cabin.speakers[sp]).present with
  | true =>
    rw [State.passArbitrated_present hp]
    exact Column.arbitrate_cellSound _ (State.targetColumn_cellSound h)
  | false =>
    rw [State.passArbitrated_absent hp]
    exact State.targetColumn_cellSound h

theorem State.passArbitrated_oneLane {s : State} {sp : SpeakerId} (h : (s.grid[sp]).oneLane) :
    (s.passArbitrated sp).column.oneLane := by
  cases hp : (s.cabin.speakers[sp]).present with
  | true =>
    rw [State.passArbitrated_present hp]
    exact Column.arbitrate_oneLane _ (State.targetColumn_oneLane h)
  | false =>
    rw [State.passArbitrated_absent hp]
    exact State.targetColumn_oneLane h

/-- A silent cell stays silent through a pass unless its route sounds there. -/
theorem State.passGrid_silentAt {s : State} {sp : SpeakerId} {i : SlotId}
    (quiet : ∀ r, s.routeAt i = some r → s.spilled.targetOf i r sp = -480) (h : (s.grid[sp]).silentAt i) :
    (s.passGrid[sp]).silentAt i := by
  rw [← State.spilled_routeAt] at quiet
  have targeted := State.targetColumn_silentAt quiet h
  rw [State.passGrid_get]
  refine State.rampColumn_silentAt ?_
  cases hp : (s.cabin.speakers[sp]).present with
  | true =>
    rw [State.passArbitrated_present hp]
    exact Column.arbitrate_silentAt _ targeted
  | false =>
    rw [State.passArbitrated_absent hp]
    exact targeted

/-- Nothing sounds at an absent speaker (R2). -/
theorem State.passGrid_absent {s : State} {sp : SpeakerId} (hp : (s.cabin.speakers[sp]).present = false)
    {i : SlotId} (h : (s.grid[sp]).silentAt i) : (s.passGrid[sp]).silentAt i :=
  State.passGrid_silentAt
    (fun _ _ => State.targetOf_of_silenced (State.silencedCell_of_absent (by rw [State.spilled_cabin, hp]))) h

theorem State.passGrid_target {s : State} {sp : SpeakerId} {i : SlotId} {r : Route} (hr : s.routeAt i = some r) :
    ((s.passGrid[sp]).cells[i]).target =
      if (s.prot.speakers[sp]).state ≠ .normal then -480 else s.spilled.targetOf i r sp := by
  have hr' : s.spilled.routeAt i = some r := by rw [State.spilled_routeAt, hr]
  rw [State.passGrid_get, State.rampColumn_cell hr, rampCell_target,
    (Cell.gains_eq_iff.mp (s.passArbitrated_gains sp i)).1, State.targetColumn_cell, State.targetCell, hr']
  have prot : s.spilled.prot = s.prot := by rw [State.spilled]
  rw [prot]
  split <;> rfl

/-- A cell waits after a pass exactly when it needs a lane and holds none (R119). -/
theorem State.passGrid_waiting {s : State} {sp : SpeakerId} (hp : (s.cabin.speakers[sp]).present = true)
    (i : SlotId) :
    ((s.passGrid[sp]).cells[i]).waiting = true ↔
      -480 < ((s.passGrid[sp]).cells[i]).target ∧ (s.passGrid[sp]).holds i = false := by
  have cell : ((s.passGrid[sp]).cells[i]).waiting = ((s.passArbitrated sp).column.cells[i]).waiting
      ∧ ((s.passGrid[sp]).cells[i]).target = ((s.passArbitrated sp).column.cells[i]).target := by
    rw [State.passGrid_get]
    cases hr : s.routeAt i with
    | none =>
      rw [State.rampColumn_cell_free hr]
      exact ⟨rfl, rfl⟩
    | some r =>
      rw [State.rampColumn_cell hr]
      exact ⟨rampCell_waiting .., rampCell_target ..⟩
  have holds : (s.passGrid[sp]).holds = (s.passArbitrated sp).column.holds := by
    rw [State.passGrid_get, State.rampColumn_holds]
  rw [cell.1, cell.2, holds, (Cell.gains_eq_iff.mp (s.passArbitrated_gains sp i)).1,
    State.passArbitrated_present hp]
  exact Column.arbitrate_waiting _ _ i

theorem State.mem_passReport_silent {s : State} {h : Handle} :
    h ∈ s.passReport.silent ↔ ∃ (i : SlotId) (r : Route), h = s.handleAt i ∧ s.routeAt i = some r
      ∧ r.state = .closing
      ∧ ∀ sp : SpeakerId, (s.grid[sp]).holds i = false ∧ ((s.grid[sp]).cells[i]).applied = -480 := by
  have found (i : SlotId) : (s.routeIn i .closing && s.isSilent i) = true ↔
      ∃ r, s.routeAt i = some r ∧ r.state = .closing
        ∧ ∀ sp : SpeakerId, (s.grid[sp]).holds i = false ∧ ((s.grid[sp]).cells[i]).applied = -480 := by
    have silent : s.isSilent i = true ↔
        ∀ sp : SpeakerId, (s.grid[sp]).holds i = false ∧ ((s.grid[sp]).cells[i]).applied = -480 := by
      simp only [State.isSilent, toList_eq_map, List.all_map, List.all_eq_true, List.mem_finRange, true_imp_iff,
        Function.comp_apply, Bool.and_eq_true, Bool.not_eq_true', decide_eq_true_eq]
    rw [Bool.and_eq_true, silent, State.routeIn]
    cases s.routeAt i with
    | none => simp
    | some r => simp
  simp only [State.passReport, List.mem_map, List.mem_filter, List.mem_finRange, true_and, found]
  constructor
  · rintro ⟨i, ⟨r, hr, closing, silent⟩, rfl⟩
    exact ⟨i, r, rfl, hr, closing, silent⟩
  · rintro ⟨i, r, rfl, hr, closing, silent⟩
    exact ⟨i, ⟨r, hr, closing, silent⟩, rfl⟩

/-- The cells of a route that a pass reports silent are silent: its targets are -480, for it is CLOSING. -/
theorem State.passGrid_reported {s : State} (hs : GridInv s) {i : SlotId} {r : Route}
    (hr : s.routeAt i = some r) (closing : r.state = .closing) {sp : SpeakerId}
    (sound : (s.passGrid[sp]).cellSound i) (unheld : (s.passGrid[sp]).holds i = false)
    (applied : ((s.passGrid[sp]).cells[i]).applied = -480) : (s.passGrid[sp]).silentAt i := by
  obtain ⟨-, -, -, absent⟩ := (gridInv_iff s).mp hs
  cases hp : (s.cabin.speakers[sp]).present with
  | false => exact State.passGrid_absent hp (absent sp hp i)
  | true =>
    obtain ⟨-, -, -, -, -, marked_holds, -⟩ := sound
    have target : ((s.passGrid[sp]).cells[i]).target = -480 := by
      rw [State.passGrid_target hr, State.targetOf_of_silenced (State.silencedCell_of_closing closing), ite_self]
    have unmarked : ((s.passGrid[sp]).cells[i]).yielding = false :=
      Bool.eq_false_iff.mpr fun marked => by rw [marked_holds marked] at unheld; cases unheld
    have waits := State.passGrid_waiting hp i
    rw [target] at waits
    have patient : ((s.passGrid[sp]).cells[i]).waiting = false :=
      Bool.eq_false_iff.mpr fun h => absurd (waits.mp h).1 (Int.lt_irrefl _)
    refine ⟨?_, unheld⟩
    generalize (s.passGrid[sp]).cells[i] = c at applied target unmarked patient ⊢
    obtain ⟨t, a, y, w⟩ := c
    simp only at applied target unmarked patient
    rw [applied, target, unmarked, patient, Cell.silent]

theorem State.passGrid_cellSound {s : State} (tables : TablesInv s) (hs : GridInv s) (sp : SpeakerId)
    (i : SlotId) : (s.passGrid[sp]).cellSound i := by
  obtain ⟨columns, -, -, -⟩ := (gridInv_iff s).mp hs
  obtain ⟨-, -, profiles, -⟩ := tables
  rw [State.passGrid_get]
  refine State.rampColumn_cellSound (fun p => ?_) (State.passArbitrated_cellSound ((columns sp).1 i))
  obtain ⟨rise, -, fall, -⟩ := profiles p
  exact ⟨rise, fall⟩

theorem State.stages_keeps_gridInv {s : State} (tables : TablesInv s) (hs : GridInv s) : GridInv s.stages := by
  obtain ⟨columns, free, -, absent⟩ := (gridInv_iff s).mp hs
  have sound := State.passGrid_cellSound tables hs
  have one (sp : SpeakerId) : (s.passGrid[sp]).oneLane := by
    rw [State.passGrid_get]
    exact State.rampColumn_oneLane (State.passArbitrated_oneLane (columns sp).2)
  have silenced {i : SlotId} {r : Route} (hr : s.routeAt i = some r) (closing : r.state = .closing)
      (sp : SpeakerId) := State.passGrid_reported hs hr closing (sound sp i)
  have freed {i : SlotId} (hi : s.routeAt i = none) (sp : SpeakerId) : (s.passGrid[sp]).silentAt i :=
    State.passGrid_silentAt (fun r hr => by rw [hi] at hr; cases hr) (free i hi sp)
  have gone {sp : SpeakerId} (hp : (s.cabin.speakers[sp]).present = false) (i : SlotId) :=
    State.passGrid_absent hp (absent sp hp i)
  obtain ⟨-, ns, count, e, -⟩ := s.stages_law
  rw [e, gridInv_iff]
  generalize s.passGrid = g at sound one silenced freed gone
  refine ⟨fun sp => ⟨sound sp, one sp⟩, fun i hi => freed hi, fun rep hrep h hh sp => ?_, fun sp => gone⟩
  cases hrep
  obtain ⟨i, r, rfl, hr, closing, silent⟩ := State.mem_passReport_silent.mp hh
  exact silenced hr closing sp (silent sp).1 (silent sp).2

/-- A report taken frees slots that it names silent alone. -/
theorem State.takeReport_keeps_gridInv {s : State} (hs : GridInv s) : GridInv s.takeReport := by
  cases hrep : s.table.report with
  | none => rwa [State.takeReport_none hrep]
  | some rep =>
    obtain ⟨columns, free, reported, absent⟩ := (gridInv_iff s).mp hs
    obtain ⟨slots, spill, ns, e, entry, -⟩ := State.takeReport_law hrep
    obtain ⟨mode, host, notices, e', -⟩ := State.leaveIfEmpty_frame
      { s with
        table := { s.table with
          slots := slots, order := s.table.order.filter fun i => decide (i ∉ s.silentSlots rep.silent)
          report := none }
        prec := { s.prec with spill := spill }
        link := { s.link with notices := ns } }
    rw [e, e', gridInv_iff]
    refine ⟨columns, fun i hi => ?_, nofun, absent⟩
    have hi : (slots[i]).route = none := hi
    rw [(entry i).2.1] at hi
    split at hi
    · next freed =>
      obtain ⟨-, h, hh, rfl, -⟩ := (s.mem_silentSlots rep.silent i).mp freed
      exact reported rep hrep h hh
    · refine free i ?_
      split at hi
      · exact Option.map_eq_none_iff.mp hi
      · exact hi

/-! ### Every command -/

theorem State.leave_routeAt (s : State) (i : SlotId) :
    ({ s with ctl := { s.ctl with mode := .leaving } } : State).forceAll.leaveIfEmpty.routeAt i =
      (s.routeAt i).map Route.forced := by
  obtain ⟨slots, notices, e, forced, -⟩ :=
    State.forceAll_law { s with ctl := { s.ctl with mode := .leaving } }
  obtain ⟨_, _, _, e', -⟩ := State.leaveIfEmpty_frame
    ({ s with ctl := { s.ctl with mode := .leaving } } : State).forceAll
  rw [e', e]
  exact (forced i).2

theorem setRoute_free {s : State} {i : SlotId} {r : Route} (j : SlotId)
    (h : (s.setRoute i (some r)).routeAt j = none) : s.routeAt j = none := by
  rw [State.setRoute_routeAt] at h
  split at h
  · cases h
  · exact h

theorem Takes.keeps_gridInv {k : Kind} {lane : LaneId} {fs : List Field} {s t : State}
    (h : Takes k lane fs s t) (table : TableInv s) (hs : GridInv s) : GridInv t := by
  cases h with
  | leave _ _ _ _ _ _ _ _ _ _ left =>
    refine GridInv.congr (s := s) rfl rfl rfl (fun i hi => ?_) hs
    have forced := s.leave_routeAt i
    rw [left] at forced
    exact Option.map_eq_none_iff.mp (forced.symm.trans hi)
  | enterRoute =>
    refine GridInv.congr (s := s) rfl rfl rfl (fun i hi => ?_) hs
    rw [State.enterRoute_routeAt] at hi
    split at hi
    · cases hi
    · exact hi
  | adjust => exact GridInv.congr (s := s) rfl rfl rfl setRoute_free hs
  | close => exact GridInv.congr (s := s) rfl rfl rfl setRoute_free hs
  | speaker _ _ _ _ _ _ mode _ =>
    obtain ⟨-, empty, -⟩ := (tableInv_iff s).mp table
    obtain ⟨columns, free, reported, -⟩ := (gridInv_iff s).mp hs
    exact (gridInv_iff _).mpr ⟨columns, free, reported, fun sp _ i => free i (empty (.inr mode) i) sp⟩
  | quota => exact GridInv.congr (s := s) rfl rfl rfl (fun _ h => h) hs
  | _ => exact GridInv.congr_table (s := s) rfl rfl rfl hs

theorem Column.silent_silentAt (i : SlotId) : Column.silent.silentAt i := by
  refine ⟨replicate_get _ i, Bool.eq_false_iff.mpr fun held => ?_⟩
  obtain ⟨k, hk⟩ := Column.holds_iff.mp held
  have free : Column.silent.lanes[k] = none := replicate_get _ k
  rw [free] at hk
  cases hk

theorem gridInv_of_silent {t : State} (grid : t.grid = Vector.replicate 24 .silent) : GridInv t := by
  have column (sp : SpeakerId) : t.grid[sp] = .silent := by rw [grid, replicate_get]
  have silent (sp : SpeakerId) (i : SlotId) : (t.grid[sp]).silentAt i := column sp ▸ Column.silent_silentAt i
  refine (gridInv_iff t).mpr ⟨fun sp => ⟨fun i => ?_, fun i k k' hk _ => ?_⟩, fun i _ sp => silent sp i,
    fun _ _ h _ sp => silent sp h.slot, fun sp _ => silent sp⟩
  · obtain ⟨cell, unheld⟩ := silent sp i
    unfold Column.cellSound
    rw [cell, unheld]
    exact ⟨by decide, by decide, by decide, by decide, fun _ => rfl, nofun, fun _ => rfl⟩
  · have held := Column.holds_iff.mpr ⟨k, hk⟩
    rw [(silent sp i).2] at held
    cases held

theorem Event.keeps_gridInv {c : Instr} {s t : State} (h : Event c s t) (tables : TablesInv s)
    (hs : GridInv s) : GridInv t := by
  cases h with
  | powerOn lines => exact gridInv_of_silent rfl
  | rstNRelease lines => exact gridInv_of_silent rfl
  | standby => exact gridInv_of_silent rfl
  | passReport _ _ _ _ _ _ _ _ taken => exact taken ▸ State.takeReport_keeps_gridInv hs
  | pass _ _ _ _ _ _ _ _ _ _ _ _ passed =>
    have ramps : TablesInv s.takeReport := by
      obtain ⟨_, _, _, _, _, _, e, -⟩ := s.takeReport_frame
      rw [e]
      exact tables
    exact passed ▸ State.stages_keeps_gridInv ramps (State.takeReport_keeps_gridInv hs)
  | holdMillisecond _ notices =>
    refine GridInv.congr (s := s) rfl rfl rfl (fun i hi => ?_) hs
    have route : (Vector.ofFn fun i : SlotId => (s.table.slots[i]).countHold)[i].route = none := hi
    rw [ofFn_get, Slot.countHold_eq] at route
    exact Option.map_eq_none_iff.mp route
  | holdExpiry => exact GridInv.congr (s := s) rfl rfl rfl setRoute_free hs
  | frame _ _ _ _ only =>
    obtain ⟨_, _, _, _, _, _, _, _, _, rfl, -⟩ := only
    exact GridInv.congr_table (s := s) rfl rfl rfl hs
  | overload _ _ _ _ _ _ only =>
    obtain ⟨_, _, _, _, _, _, _, _, _, rfl, -⟩ := only
    exact GridInv.congr_table (s := s) rfl rfl rfl hs
  | _ => exact GridInv.congr_table (s := s) rfl rfl rfl hs

theorem exec_keeps_gridInv {c : Instr} {s t : State} (h : exec c s = .next t)
    (hs : TableInv s ∧ TablesInv s ∧ GridInv s) : TableInv t ∧ TablesInv t ∧ GridInv t :=
  exec_keeps (P := fun s => TableInv s ∧ TablesInv s ∧ GridInv s) (fun _ _ h => h)
    (fun h ⟨table, tables, grid⟩ => ⟨h.keeps_tableInv table, h.keeps_tablesInv tables, h.keeps_gridInv table grid⟩)
    (fun h ⟨table, tables, grid⟩ => ⟨h.keeps_tableInv table, h.keeps_tablesInv tables, h.keeps_gridInv tables grid⟩)
    h hs

/-- Settles O57. -/
theorem gridStaysSound : Obligations.GridStaysSound := fun _ _ table tables grid h =>
  (step_keeps (P := fun s => TableInv s ∧ TablesInv s ∧ GridInv s) (fun _ _ h => h) exec_keeps_gridInv h
    ⟨table, tables, grid⟩).2.2

end Sys2Proof.Machine
end

section
/-! PROOF. Straight lines rounded to nearest, half away from zero (R82, R133): the rounded quotient once, then
the frames of a glide and the points of a speed curve by it. -/
namespace Sys2Proof.Machine

/-! ### The rounded quotient -/

theorem roundAway_neg {d : Int} (hd : 0 < d) (n : Int) : roundAway (-n) d = -roundAway n d := by
  unfold roundAway
  rcases lt_trichotomy n 0 with neg | rfl | pos
  · rw [if_pos (by omega), if_neg (by omega), neg_neg]
  · have zero : d / (2 * d) = 0 := Int.ediv_eq_zero_of_lt hd.le (by omega)
    simp [zero]
  · rw [if_neg (by omega), if_pos pos.le, neg_neg]

/-- The quotient of a number that is not negative, its remainder at most half a divisor either way. -/
theorem roundAway_of_nonneg {n d : Int} (hd : 0 < d) (hn : 0 ≤ n) :
    2 * (d * roundAway n d) ≤ 2 * n + d ∧ 2 * n + d < 2 * (d * roundAway n d) + 2 * d := by
  rw [roundAway, if_pos hn]
  have low := Int.ediv_mul_le (2 * n + d) (show 2 * d ≠ 0 by omega)
  have high := Int.lt_ediv_add_one_mul_self (2 * n + d) (show 0 < 2 * d by omega)
  generalize (2 * n + d) / (2 * d) = q at low high ⊢
  have scaled : q * (2 * d) = 2 * (d * q) := by ring
  rw [add_mul, one_mul, scaled] at high
  rw [scaled] at low
  exact ⟨low, high⟩

/-- The rounded quotient is a nearest one, and of two the one farther from zero. -/
theorem roundAway_nearest {n d : Int} (hd : 0 < d) :
    |2 * (d * roundAway n d - n)| ≤ d
    ∧ (|2 * (d * roundAway n d - n)| = d → |n| < |d * roundAway n d|) := by
  wlog hn : 0 ≤ n generalizing n
  · have mirrored := this (n := -n) (by omega)
    have gap : d * -roundAway n d - -n = -(d * roundAway n d - n) := by ring
    rw [roundAway_neg hd, gap, mul_neg, mul_neg, abs_neg, abs_neg, abs_neg] at mirrored
    exact mirrored
  · obtain ⟨low, high⟩ := roundAway_of_nonneg hd hn
    generalize d * roundAway n d = p at low high ⊢
    refine ⟨abs_le.mpr ⟨by omega, by omega⟩, fun tie => ?_⟩
    rw [abs_of_nonneg hn]
    rcases abs_choice (2 * (p - n)) with e | e <;> rw [e] at tie
    · rw [abs_of_nonneg (by omega)]
      omega
    · omega

/-- A part of a whole m, rounded, lies between 0 and m. -/
theorem roundAway_between {m x d : Int} (hd : 0 < d) (x_nonneg : 0 ≤ x) (x_le : x ≤ d) :
    min 0 m ≤ roundAway (m * x) d ∧ roundAway (m * x) d ≤ max 0 m := by
  wlog hm : 0 ≤ m generalizing m
  · have mirrored := this (m := -m) (by omega)
    rw [neg_mul, roundAway_neg hd] at mirrored
    omega
  · have part_nonneg : 0 ≤ m * x := mul_nonneg hm x_nonneg
    have part_le : m * x ≤ d * m := by
      rw [mul_comm d m]
      exact mul_le_mul_of_nonneg_left x_le hm
    obtain ⟨low, high⟩ := roundAway_of_nonneg hd part_nonneg
    rw [min_eq_left hm, max_eq_right hm]
    constructor
    · by_contra negative
      have : d * roundAway (m * x) d ≤ d * (-1) := mul_le_mul_of_nonneg_left (by omega) hd.le
      omega
    · by_contra above
      have : d * (m + 1) ≤ d * roundAway (m * x) d := mul_le_mul_of_nonneg_left (by omega) hd.le
      rw [mul_add] at this
      omega

theorem roundAway_zero {d : Int} (hd : 0 < d) : roundAway 0 d = 0 := by
  have between := roundAway_between (m := 0) (x := 0) hd le_rfl hd.le
  rw [zero_mul, min_self, max_self] at between
  exact le_antisymm between.2 between.1

theorem roundAway_self {m d : Int} (hd : 0 < d) : roundAway (m * d) d = m := by
  obtain ⟨near, -⟩ := roundAway_nearest (n := m * d) hd
  have gap : 2 * (d * roundAway (m * d) d - m * d) = d * (2 * (roundAway (m * d) d - m)) := by ring
  rw [gap, abs_mul, abs_of_pos hd] at near
  have : |2 * (roundAway (m * d) d - m)| ≤ 1 := by
    by_contra h
    have : d * 2 ≤ d * |2 * (roundAway (m * d) d - m)| := mul_le_mul_of_nonneg_left (by omega) hd.le
    omega
  have bounds := abs_le.mp this
  omega

/-! ### Glides -/

theorem applyTimes_succ {α : Type} (f : α → α) (n : Nat) (x : α) :
    applyTimes f (n + 1) x = f (applyTimes f n x) := by
  induction n generalizing x with
  | zero => rfl
  | succ n ih => exact ih (f x)

theorem MixLane.gainAt_zero (l : MixLane) : l.gainAt 0 = l.start := by
  rw [MixLane.gainAt, Nat.cast_zero, mul_zero, roundAway_zero (by decide), add_zero]

theorem MixLane.gainAt_end (l : MixLane) : l.gainAt 48 = lin l.goal := by
  have last : roundAway ((lin l.goal - l.start) * (48 : Nat)) 48 = lin l.goal - l.start :=
    roundAway_self (by decide)
  rw [MixLane.gainAt, last, add_sub_cancel]

/-- Every gain of a glide lies between its two ends. -/
theorem MixLane.gainAt_between (l : MixLane) {j : Nat} (h : j ≤ 48) :
    min l.start (lin l.goal) ≤ l.gainAt j ∧ l.gainAt j ≤ max l.start (lin l.goal) := by
  have between := roundAway_between (m := lin l.goal - l.start) (x := j) (d := 48) (by decide)
    (Int.natCast_nonneg j) (by exact_mod_cast h)
  unfold MixLane.gainAt
  omega

/-- A glide after j of its 48 frames (R133). -/
theorem MixLane.advanced {l : MixLane} (start : l.gain = l.start) (fresh : l.frames = 0) {j : Nat}
    (h : j ≤ 48) : applyTimes MixLane.advance j l = { l with gain := l.gainAt j, frames := j } := by
  induction j with
  | zero =>
    rw [MixLane.gainAt_zero]
    obtain ⟨_, gain, first, _, frames⟩ := l
    cases (fresh : frames = 0)
    cases (start : gain = first)
    rfl
  | succ j ih =>
    rw [applyTimes_succ, ih (by omega), MixLane.advance, if_pos (show j < 48 by omega)]
    rfl

theorem MixLane.advanced_past {l : MixLane} (start : l.gain = l.start) (fresh : l.frames = 0) (n : Nat) :
    applyTimes MixLane.advance (48 + n) l = { l with gain := lin l.goal, frames := 48 } := by
  induction n with
  | zero => rw [add_zero, MixLane.advanced start fresh le_rfl, MixLane.gainAt_end]
  | succ n ih =>
    rw [← add_assoc, applyTimes_succ, ih]
    rfl

/-- Settles O43: the gain in frame j is the straight line's, rounded. -/
theorem glidesReachTheirEndInFrames : Obligations.GlidesReachTheirEndInFrames := by
  intro l start fresh
  refine ⟨fun j hj => ?_, fun j hj => ?_⟩
  · intro x
    have glide : x = { l with gain := l.gainAt j, frames := j } := MixLane.advanced start fresh hj
    have step : 48 * (x.gain - l.start) = 48 * roundAway ((lin l.goal - l.start) * j) 48 := by
      rw [glide]
      simp only [MixLane.gainAt, add_sub_cancel_left]
    obtain ⟨near, away⟩ := roundAway_nearest (n := (lin l.goal - l.start) * j) (d := 48) (by decide)
    rw [← step, abs_mul, abs_two] at near away
    refine ⟨by rw [glide], by rw [glide], by rw [glide], by omega, fun tie => away (by omega), ?_⟩
    rw [glide]
    exact l.gainAt_between hj
  · obtain ⟨n, rfl⟩ := Nat.exists_eq_add_of_le hj
    rw [MixLane.advanced_past start fresh]

/-! ### Speed curves -/

/-- Between two points the value lies between their gains (R82). -/
theorem segment_between (a b : CurvePoint) {v : Nat} (reached : a.speed ≤ v) (below : v < b.speed) :
    min a.gain b.gain
        ≤ a.gain + roundAway ((b.gain - a.gain) * ((v : Int) - a.speed)) ((b.speed : Int) - a.speed)
    ∧ a.gain + roundAway ((b.gain - a.gain) * ((v : Int) - a.speed)) ((b.speed : Int) - a.speed)
        ≤ max a.gain b.gain := by
  have between := roundAway_between (m := b.gain - a.gain) (x := (v : Int) - a.speed)
    (d := (b.speed : Int) - a.speed) (by omega) (by omega) (by omega)
  omega

/-- Values lie in any range that the gains lie in. -/
theorem evalFrom_range {lo hi : Int} {a : CurvePoint} {v : Nat} {l : List CurvePoint} (reached : a.speed ≤ v)
    (gains : ∀ p ∈ a :: l, lo ≤ p.gain ∧ p.gain ≤ hi) : lo ≤ evalFrom a v l ∧ evalFrom a v l ≤ hi := by
  induction l generalizing a with
  | nil => exact gains a (List.mem_cons_self ..)
  | cons b rest ih =>
    obtain ⟨first, others⟩ := List.forall_mem_cons.mp gains
    rw [evalFrom]
    split
    · next below =>
      have between := segment_between a b reached below
      have second := others b (List.mem_cons_self ..)
      omega
    · next above => exact ih (by omega) others

/-- From a speed of the first point's on, the curve's value is read from any point reached (R82). -/
theorem evalCurve_from {curve : Vector CurvePoint 8} {v : Nat}
    (rising : ∀ i j : Fin 8, i < j → (curve[i]).speed < (curve[j]).speed) {n : Nat} (hn : n < 8)
    (reached : (curve[n]).speed ≤ v) :
    evalCurve curve v = evalFrom curve[n] v (curve.toList.drop (n + 1)) := by
  have next_point {m : Nat} (hm : m < 8) : curve.toList.drop m = curve[m] :: curve.toList.drop (m + 1) := by
    rw [List.drop_eq_getElem_cons (by simpa using hm), Vector.getElem_toList]
  induction n with
  | zero =>
    rw [evalCurve, ← List.drop_one]
    split
    · next at_first =>
      have second : (curve[0]).speed < (curve[1]).speed := rising 0 1 (by decide)
      have same : (v : Int) - (curve[0]).speed = 0 := by omega
      rw [next_point (m := 1) (by decide), evalFrom, if_pos (by omega), same, mul_zero,
        roundAway_zero (by omega), add_zero]
    · rfl
  | succ n ih =>
    have before : (curve[n]).speed < (curve[n + 1]).speed :=
      rising ⟨n, by omega⟩ ⟨n + 1, hn⟩ (Fin.mk_lt_mk.mpr (Nat.lt_succ_self n))
    rw [ih (by omega) (by omega), next_point hn, evalFrom, if_neg (by omega)]

/-- Settles O27. -/
theorem curvesInterpolateBetweenPoints : Obligations.CurvesInterpolateBetweenPoints := by
  intro curve v rising
  refine ⟨fun below => ?_, fun past => ?_, fun gains => ?_, fun i j hij reached below => ?_⟩
  · exact if_pos below
  · rw [evalCurve_from rising (n := 7) (by decide) past, List.drop_eq_nil_of_le (by simp)]
    rfl
  · rw [evalCurve]
    split
    · exact gains 0
    · refine evalFrom_range (by omega) fun p hp => ?_
      have mem : p ∈ curve.toList := by
        rcases List.mem_cons.mp hp with rfl | hp
        · simp
        · exact List.mem_of_mem_tail hp
      obtain ⟨k, rfl⟩ := (mem_toList_iff _ _).mp mem
      exact gains k
  · obtain ⟨i, hi⟩ := i
    obtain ⟨j, hj⟩ := j
    have hij : j = i + 1 := hij
    subst hij
    have reached : curve[i].speed ≤ v := reached
    have below : v < curve[i + 1].speed := below
    have value : evalCurve curve v = curve[i].gain
        + roundAway ((curve[i + 1].gain - curve[i].gain) * ((v : Int) - curve[i].speed))
            ((curve[i + 1].speed : Int) - curve[i].speed) := by
      rw [evalCurve_from rising hi reached, List.drop_eq_getElem_cons (by simpa using hj),
        Vector.getElem_toList, evalFrom, if_pos below]
    refine ⟨_, value, ?_, ?_⟩
    · have nearest := roundAway_nearest
        (n := (curve[i + 1].gain - curve[i].gain) * ((v : Int) - curve[i].speed))
        (d := (curve[i + 1].speed : Int) - curve[i].speed) (by omega)
      rw [mul_comm (((curve[i + 1].speed : Int) - curve[i].speed))] at nearest
      exact nearest
    · rw [value]
      exact segment_between _ _ reached below

end Sys2Proof.Machine
end

section
/-! PROOF. The signal path: the six sections as one filter, what a frame makes of lanes, sections and samples
before any overload event, and the two obligations about the frame event from these and the overload events'
law. -/
namespace Sys2Proof.Machine

/-! ### The six sections -/

/-- The run of the six sections is the filter of R136. -/
theorem SpeakerEq.run_filters (e : SpeakerEq) (x : Int) : Filters e e.state x (e.run x).1 (e.run x).2 := by
  let v0 := sectionOut e.voicing[0] e.state[0] x
  let v1 := sectionOut e.voicing[1] e.state[1] v0
  let v2 := sectionOut e.voicing[2] e.state[2] v1
  let v3 := sectionOut e.voicing[3] e.state[3] v2
  let lo := sectionOut e.low e.state[4] v3
  let hi := sectionOut e.high e.state[5] lo
  refine ⟨#v[x, v0, v1, v2, v3, lo, hi], rfl, rfl, fun n => ?_⟩
  match n with
  | 0 => exact ⟨sectionOut_eq e.voicing[0] e.state[0] x, rfl⟩
  | 1 => exact ⟨sectionOut_eq e.voicing[1] e.state[1] v0, rfl⟩
  | 2 => exact ⟨sectionOut_eq e.voicing[2] e.state[2] v1, rfl⟩
  | 3 => exact ⟨sectionOut_eq e.voicing[3] e.state[3] v2, rfl⟩
  | 4 => exact ⟨sectionOut_eq e.low e.state[4] v3, rfl⟩
  | 5 => exact ⟨sectionOut_eq e.high e.state[5] lo, rfl⟩

/-- Saturation gives a number of 24 bits. -/
theorem is24_saturated (x : Int) : Is24 (max (-8388608) (min 8388607 x)) := by
  unfold Is24
  omega

theorem is24_zero : Is24 0 := by
  unfold Is24
  decide

/-- A filter of 24-bit numbers gives 24-bit numbers. -/
theorem Filters.in24 {e : SpeakerEq} {old new : Vector SectionState 6} {x y : Int}
    (h : Filters e old x y new) (hx : Is24 x) (hold : ∀ n : Fin 6, (old[n]).in24) :
    Is24 y ∧ ∀ n : Fin 6, (new[n]).in24 := by
  obtain ⟨v, rfl, rfl, section_law⟩ := h
  have out (n : Fin 6) : Is24 v[n.succ] := by
    rw [(section_law n).1]
    exact is24_saturated _
  have value (n : Fin 7) : Is24 v[n] := Fin.cases hx out n
  refine ⟨out 5, fun n => ?_⟩
  rw [(section_law n).2]
  obtain ⟨x1, -, y1, -⟩ := hold n
  exact ⟨value _, x1, value _, y1⟩

/-- Through flat sections a 24-bit number passes unchanged. -/
theorem Filters.flat {e : SpeakerEq} {old new : Vector SectionState 6} {x y : Int} (h : Filters e old x y new)
    (hx : Is24 x) (voicing : ∀ n : Fin 4, e.voicing[n] = ⟨4194304, 0, 0, 0, 0⟩)
    (low : e.low = ⟨4194304, 0, 0, 0, 0⟩) (high : e.high = ⟨4194304, 0, 0, 0, 0⟩) : y = x := by
  obtain ⟨v, rfl, rfl, section_law⟩ := h
  have flat (n : Fin 6) :
      #v[e.voicing[0], e.voicing[1], e.voicing[2], e.voicing[3], e.low, e.high][n] = ⟨4194304, 0, 0, 0, 0⟩ := by
    match n with
    | 0 => exact voicing 0
    | 1 => exact voicing 1
    | 2 => exact voicing 2
    | 3 => exact voicing 3
    | 4 => exact low
    | 5 => exact high
  have passes (n : Fin 6) (hn : Is24 v[n.castSucc]) : v[n.succ] = v[n.castSucc] := by
    have out := (section_law n).1
    rw [flat n, Int.fdiv_eq_ediv_of_nonneg _ (by decide)] at out
    simp only [zero_mul, add_zero, sub_zero] at out
    unfold Is24 at hn
    rw [out]
    omega
  have unchanged (n : Fin 7) : v[n] = v[(0 : Fin 7)] := by
    induction n using Fin.induction with
    | zero => rfl
    | succ n ih => rw [passes n (ih ▸ hx), ih]
  exact unchanged 6

/-! ### The frame before its overload events -/

/-- The mix of a speaker over the lanes a state gives it (R18, R135). -/
theorem State.mixOut_mixSum (s : State) (samples : Vector Sample 16) (sp : SpeakerId) :
    mixOut (s.mixSum samples sp) = s.mixHeard samples sp s.mixer.lanes[sp] := by
  unfold mixOut State.mixSum State.mixHeard
  dsimp only
  rw [sat24_eq, Int.fdiv_eq_ediv_of_nonneg _ (by decide), toList_eq_map, List.map_map]
  congr 5
  refine List.map_congr_left fun k _ => ?_
  simp only [Function.comp_apply, State.lanePart]
  cases (s.mixer.lanes[sp][k]).holder with
  | none => rfl
  | some i =>
    dsimp only
    cases s.routeAt i with
    | none => rfl
    | some r =>
      simp only [feed, inputSample]
      cases r.width with
      | mono => rfl
      | stereo =>
        cases (s.cabin.speakers[sp]).side with
        | left => rfl
        | right => rfl
        | centre => rw [Int.fdiv_eq_ediv_of_nonneg _ (by decide)]

theorem ClockState.eq_running {c : ClockState} (h : ¬c = .lost) : c = .running := by
  cases c with
  | running => rfl
  | lost => exact absurd rfl h

/-- The return of frames, where they were lost (R130, R143, R144, R149). -/
theorem State.backForFrame_law (s : State) :
    ∃ lanes speakers prot notices,
      s.backForFrame =
        { s with
          mixer := { s.mixer with clock := .running, lanes := lanes }
          eq := { s.eq with speakers := speakers }
          prot := { s.prot with speakers := prot }
          link := { s.link with notices := notices } }
      ∧ (∀ (sp : SpeakerId) (k : MixId), (lanes[sp])[k] =
          if s.mixer.clock = .lost then ((s.mixer.lanes[sp])[k]).settle else (s.mixer.lanes[sp])[k])
      ∧ (∀ sp : SpeakerId, speakers[sp] = { s.eq.speakers[sp] with
          state := if s.mixer.clock = .lost then sectionsAtRest else (s.eq.speakers[sp]).state })
      ∧ (∀ sp : SpeakerId, prot[sp] = { s.prot.speakers[sp] with
          counter := if s.mixer.clock = .lost then 0 else (s.prot.speakers[sp]).counter })
      ∧ notices = (if s.mixer.clock = .lost ∧ s.ctl.mode ≠ .standby then
          noticed s.link.notices 0 .clock none else s.link.notices) := by
  unfold State.backForFrame
  by_cases lost : s.mixer.clock = .lost
  · simp only [lost, if_true, true_and]
    unfold State.returnOfFrames
    dsimp only
    split
    · next standby =>
      refine ⟨_, _, _, _, rfl, fun sp k => ?_, fun sp => ?_, fun sp => ?_, ?_⟩
      · rw [ofFn_get, ofFn_get]
      · rw [ofFn_get]
      · rw [ofFn_get]
      · exact (if_neg (not_not.mpr standby)).symm
    · next awake =>
      rw [State.raise_noticed]
      refine ⟨_, _, _, _, rfl, fun sp k => ?_, fun sp => ?_, fun sp => ?_, rfl⟩
      · rw [ofFn_get, ofFn_get]
      · rw [ofFn_get]
      · rw [ofFn_get]
  · simp only [lost, if_false, false_and]
    refine ⟨s.mixer.lanes, s.eq.speakers, s.prot.speakers, s.link.notices, ?_, fun _ _ => rfl, fun _ => rfl,
      fun _ => rfl, rfl⟩
    rw [← ClockState.eq_running lost]

theorem MixLane.advance_settle (l : MixLane) : l.settle.advance = l.settle := rfl

/-- What a frame has made before its overload events: the glides moved, and behind every open gate the mix
filtered by the six sections; 0 and sections at rest behind a closed one (R130, R133, R136, R142). -/
theorem State.madeFrame_law (s : State) (samples : Vector Sample 16) :
    ∃ lanes held speakers prot notices,
      s.madeFrame samples =
        { s with
          mixer := { s.mixer with clock := .running, lanes := lanes, held := held }
          eq := { s.eq with speakers := speakers }
          prot := { s.prot with speakers := prot }
          link := { s.link with notices := notices } }
      ∧ (∀ (sp : SpeakerId) (k : MixId), (lanes[sp])[k] =
          if s.mixer.clock = .lost then ((s.mixer.lanes[sp])[k]).settle else ((s.mixer.lanes[sp])[k]).advance)
      ∧ (∀ sp : SpeakerId, speakers[sp] = { s.eq.speakers[sp] with state := (speakers[sp]).state })
      ∧ (∀ sp : SpeakerId, s.mixer.gates[sp] = true →
          Filters s.eq.speakers[sp]
            (if s.mixer.clock = .lost then sectionsAtRest else (s.eq.speakers[sp]).state)
            (s.mixHeard samples sp lanes[sp]) held[sp] (speakers[sp]).state)
      ∧ (∀ sp : SpeakerId, s.mixer.gates[sp] = false → held[sp] = 0 ∧ (speakers[sp]).state = sectionsAtRest)
      ∧ (∀ sp : SpeakerId, prot[sp] = { s.prot.speakers[sp] with
          counter := if s.mixer.clock = .lost then 0 else (s.prot.speakers[sp]).counter })
      ∧ notices = (if s.mixer.clock = .lost ∧ s.ctl.mode ≠ .standby then
          noticed s.link.notices 0 .clock none else s.link.notices) := by
  obtain ⟨lanes, speakers, prot, notices, back, hlanes, hspeakers, hprot, hnotices⟩ := s.backForFrame_law
  obtain ⟨moved, hmoved⟩ : ∃ moved : Vector (Vector MixLane 8) 24,
      moved = Vector.ofFn fun sp : SpeakerId => Vector.ofFn fun k => ((lanes[sp])[k]).advance := ⟨_, rfl⟩
  obtain ⟨u, hu⟩ : ∃ u : State, u =
      { s with
        mixer := { s.mixer with clock := .running, lanes := moved }
        eq := { s.eq with speakers := speakers }
        prot := { s.prot with speakers := prot }
        link := { s.link with notices := notices } } := ⟨_, rfl⟩
  have made : s.madeFrame samples = u.produceFrame samples := by
    rw [State.madeFrame, back, State.advanceGlides, hu, hmoved]
  have mix (sp : SpeakerId) : mixOut (u.mixSum samples sp) = s.mixHeard samples sp moved[sp] := by
    rw [State.mixOut_mixSum, hu]
    rfl
  have gates : u.mixer.gates = s.mixer.gates := by rw [hu]
  have eqs : u.eq.speakers = speakers := by rw [hu]
  obtain ⟨held, hheld⟩ : ∃ held, held = Vector.ofFn fun sp => (u.speakerFrame samples sp).1 := ⟨_, rfl⟩
  obtain ⟨filtered, hfiltered⟩ : ∃ filtered, filtered = Vector.ofFn fun sp : SpeakerId =>
      { u.eq.speakers[sp] with state := (u.speakerFrame samples sp).2 } := ⟨_, rfl⟩
  refine ⟨moved, held, filtered, prot, notices, ?_, fun sp k => ?_, fun sp => ?_, fun sp opened => ?_,
    fun sp closed => ?_, hprot, hnotices⟩
  · rw [made, State.produceFrame, ← hheld, ← hfiltered, hu]
  · rw [hmoved, ofFn_get, ofFn_get, hlanes]
    split
    · exact MixLane.advance_settle _
    · rfl
  · rw [hfiltered, ofFn_get, eqs, hspeakers]
  · rw [hheld, hfiltered, ofFn_get, ofFn_get, State.speakerFrame, gates, opened, if_pos rfl, mix, eqs, hspeakers]
    exact SpeakerEq.run_filters _ _
  · rw [hheld, hfiltered, ofFn_get, ofFn_get, State.speakerFrame, gates, closed, if_neg Bool.false_ne_true]
    exact ⟨rfl, rfl⟩

/-! ### The frame event -/

theorem exec_frameEvent {s : State} (released : s.pins.rstAsserted = false) (samples : Vector Sample 16) :
    exec (.frameEvent samples) s =
      .next { s.countedFrame samples with mixer := { (s.countedFrame samples).mixer with inFrame := false } } := by
  have e : exec (.frameEvent samples) s = execFrameEvent samples s := rfl
  rw [e, execFrameEvent, released, if_neg Bool.false_ne_true, State.frame_eq]

/-- The overload events of a frame are those of the state in which its detectors have counted. -/
theorem State.countedFrame_acts (s : State) (samples : Vector Sample 16) :
    OverloadsAct ((List.finRange 24).filter (s.madeFrame samples).overloads)
      (s.madeFrame samples).countOverloads (s.countedFrame samples) :=
  State.overloadAll_acts ((List.nodup_finRange 24).filter _) _

theorem State.countOverloads_mixer (s : State) : s.countOverloads.mixer = s.mixer := by
  rw [State.countOverloads]

theorem State.countOverloads_eq (s : State) : s.countOverloads.eq = s.eq := by
  rw [State.countOverloads]

theorem State.countOverloads_cabin (s : State) : s.countOverloads.cabin = s.cabin := by
  rw [State.countOverloads]

theorem State.countOverloads_link (s : State) : s.countOverloads.link = s.link := by
  rw [State.countOverloads]

theorem State.countOverloads_summary (s : State) : s.countOverloads.prot.summary = s.prot.summary := by
  rw [State.countOverloads]

/-- The speakers whose gate an overload event of this frame closes. -/
def State.shutInFrame (s : State) (samples : Vector Sample 16) (sp : SpeakerId) : Prop :=
  (s.madeFrame samples).overloads sp = true ∧ (s.madeFrame samples).shuts sp = true

/-- Gates, samples and sections after a frame: as made, except where an event closes the gate (R142). -/
theorem State.countedFrame_entry (s : State) (samples : Vector Sample 16) (sp : SpeakerId) :
    (s.shutInFrame samples sp →
      (s.countedFrame samples).mixer.gates[sp] = false
      ∧ (s.countedFrame samples).mixer.held[sp] = 0
      ∧ (s.countedFrame samples).eq.speakers[sp] =
        { (s.madeFrame samples).eq.speakers[sp] with state := sectionsAtRest })
    ∧ (¬s.shutInFrame samples sp →
      (s.countedFrame samples).mixer.gates[sp] = (s.madeFrame samples).mixer.gates[sp]
      ∧ (s.countedFrame samples).mixer.held[sp] = (s.madeFrame samples).mixer.held[sp]
      ∧ (s.countedFrame samples).eq.speakers[sp] = (s.madeFrame samples).eq.speakers[sp]) := by
  obtain ⟨-, entry, -, -⟩ := s.countedFrame_acts samples
  obtain ⟨-, gate, held, eq⟩ := entry sp
  rw [gate, held, eq, State.countOverloads_mixer, State.countOverloads_eq]
  have shut : (sp ∈ (List.finRange 24).filter (s.madeFrame samples).overloads
      ∧ (s.madeFrame samples).countOverloads.shuts sp = true) ↔ s.shutInFrame samples sp := by
    rw [State.shuts, State.countOverloads_cabin, List.mem_filter, State.shutInFrame, State.shuts]
    simp only [List.mem_finRange, true_and]
  rw [← shut]
  refine ⟨fun h => ?_, fun h => ?_⟩
  · rw [if_pos h, if_pos h, if_pos h]
    exact ⟨rfl, rfl, rfl⟩
  · rw [if_neg h, if_neg h, if_neg h]
    exact ⟨rfl, rfl, rfl⟩

/-- Settles O46. -/
theorem openSpeakersSendTheirMix : Obligations.OpenSpeakersSendTheirMix := by
  refine ⟨fun s t samples sp released hexec opened => ?_, SpeakerEq.run_filters⟩
  rw [exec_frameEvent released] at hexec
  obtain rfl := Host.Outcome.next.inj hexec
  obtain ⟨shut, stays⟩ := s.countedFrame_entry samples sp
  have open_after : ¬s.shutInFrame samples sp := fun h => by
    have closed := (shut h).1
    have opened : (s.countedFrame samples).mixer.gates[sp] = true := opened
    rw [closed] at opened
    cases opened
  obtain ⟨gate, held, eq⟩ := stays open_after
  obtain ⟨frame, -, -, -⟩ := s.countedFrame_acts samples
  obtain ⟨lanes, _, _, _, _, made, -, -, filters, -⟩ := s.madeFrame_law samples
  have same_lanes : (s.countedFrame samples).mixer.lanes = lanes := by
    rw [frame, State.countOverloads_mixer, made]
  have opened : (s.countedFrame samples).mixer.gates[sp] = true := opened
  have opened_before : s.mixer.gates[sp] = true := by
    rw [gate, made] at opened
    exact opened
  have filtered := filters sp opened_before
  have filters_now : Filters s.eq.speakers[sp]
      (if s.mixer.clock = .lost then sectionsAtRest else (s.eq.speakers[sp]).state)
      (s.mixHeard samples sp (s.countedFrame samples).mixer.lanes[sp])
      (s.countedFrame samples).mixer.held[sp] ((s.countedFrame samples).eq.speakers[sp]).state := by
    rw [same_lanes, held, eq, made]
    exact filtered
  exact ⟨filters_now, fun voicing low high =>
    filters_now.flat (is24_saturated _) voicing low high⟩

end Sys2Proof.Machine
end

section
/-! PROOF. The frame event as a whole: what its detectors count and which events they make, and the
obligation from these, from what the frame has made and from the overload events' law. -/
namespace Sys2Proof.Machine

/-- An overload event on items whose frame counter is 0 acts by the protection mode (R149 to R152). -/
theorem SpeakerProt.overloaded_spec {m : ProtMode} (on : m ≠ .off) (p : SpeakerProt) :
    Overloaded m p (SpeakerProt.overloaded { p with counter := 0 } m) := by
  have retry (ms : Nat) :
      ((if p.window.isSome then p.repeats + 1 else 1) < 4 →
        ({ SpeakerProt.trip { p with counter := 0 } ms with counter := 0 } : SpeakerProt) =
          { p with
            state := .tripped, counter := 0, retry := some ms
            repeats := if p.window.isSome then p.repeats + 1 else 1, window := none })
      ∧ (4 ≤ (if p.window.isSome then p.repeats + 1 else 1) →
        ({ SpeakerProt.trip { p with counter := 0 } ms with counter := 0 } : SpeakerProt) =
          { p with
            state := .latched .escalated, counter := 0, retry := none
            repeats := if p.window.isSome then p.repeats + 1 else 1, window := none }) := by
    refine ⟨fun below => ?_, fun reached => ?_⟩
    · rw [SpeakerProt.trip, if_pos (by exact below)]
      rfl
    · rw [SpeakerProt.trip, if_neg (by exact Nat.not_lt.mpr reached)]
      rfl
  cases m with
  | off => exact absurd rfl on
  | report => rfl
  | retryFast => exact retry 50
  | retrySlow => exact retry 500
  | latch => rfl

section
variable (s : State) (samples : Vector Sample 16) (sp : SpeakerId)

/-- The frames in a row that a frame's detector has counted before this one (R148, R149). -/
def State.countBefore : Nat := if s.mixer.clock = .lost then 0 else (s.prot.speakers[sp]).counter

/-- The detector's count with a frame whose sample is y (R147, R148). -/
def State.countWith (y : Int) : Nat :=
  if (8388607 * lin (-((s.cabin.speakers[sp]).threshold : Int))).fdiv 8388608 ≤ |y| then
    s.countBefore sp + 1
  else 0

/-- The detector is handed the speaker's samples (R148). -/
def State.watches : Prop := s.mixer.gates[sp] = true ∧ (s.cabin.speakers[sp]).protMode ≠ .off

theorem State.madeFrame_cabin : (s.madeFrame samples).cabin = s.cabin := by
  obtain ⟨_, _, _, _, _, made, -⟩ := s.madeFrame_law samples
  rw [made]

theorem State.madeFrame_gates : (s.madeFrame samples).mixer.gates = s.mixer.gates := by
  obtain ⟨_, _, _, _, _, made, -⟩ := s.madeFrame_law samples
  rw [made]

theorem State.madeFrame_items :
    (s.madeFrame samples).prot.speakers[sp] = { s.prot.speakers[sp] with counter := s.countBefore sp } := by
  obtain ⟨_, _, _, prot, _, made, -, -, -, -, items, -⟩ := s.madeFrame_law samples
  rw [made]
  exact items sp

theorem State.madeFrame_counted :
    ((s.madeFrame samples).prot.speakers[sp]).counted (s.madeFrame samples).cabin.speakers[sp]
      (s.madeFrame samples).mixer.held[sp] = s.countWith sp (s.madeFrame samples).mixer.held[sp] := by
  rw [SpeakerProt.counted, State.madeFrame_items, State.madeFrame_cabin, State.countWith, thresholdAmplitude,
    Int.fdiv_eq_ediv_of_nonneg _ (by decide)]

theorem State.madeFrame_detects : (s.madeFrame samples).detects sp = true ↔ s.watches sp := by
  rw [State.detects, State.madeFrame_gates, State.madeFrame_cabin, Bool.and_eq_true, decide_eq_true_iff,
    State.watches]

/-- A frame makes an overload event exactly when the count reaches the deglitch (R148). -/
theorem State.madeFrame_overloads :
    (s.madeFrame samples).overloads sp = true ↔ s.watches sp
      ∧ s.countWith sp (s.madeFrame samples).mixer.held[sp] = (s.cabin.speakers[sp]).deglitch := by
  rw [State.overloads, Bool.and_eq_true, State.madeFrame_detects, decide_eq_true_iff, State.madeFrame_counted,
    State.madeFrame_cabin]

/-- The protection items of a speaker after a frame: as they were but for the counter, or those that its
overload event makes (R148, R150 to R152). -/
theorem State.countedFrame_items :
    (¬s.watches sp → (s.countedFrame samples).prot.speakers[sp] =
        { s.prot.speakers[sp] with counter := s.countBefore sp })
    ∧ (s.watches sp → (s.madeFrame samples).overloads sp = false →
      (s.countedFrame samples).prot.speakers[sp] =
        { s.prot.speakers[sp] with counter := s.countWith sp (s.madeFrame samples).mixer.held[sp] })
    ∧ ((s.madeFrame samples).overloads sp = true →
      (s.countedFrame samples).prot.speakers[sp] =
        SpeakerProt.overloaded { s.prot.speakers[sp] with counter := 0 } (s.cabin.speakers[sp]).protMode) := by
  obtain ⟨-, entry, -, -⟩ := s.countedFrame_acts samples
  obtain ⟨items, -, -, -⟩ := entry sp
  have acts : sp ∈ (List.finRange 24).filter (s.madeFrame samples).overloads ↔
      (s.madeFrame samples).overloads sp = true := by
    rw [List.mem_filter]
    simp only [List.mem_finRange, true_and]
  have detects := s.madeFrame_detects samples sp
  have event := s.madeFrame_overloads samples sp
  rw [State.countOverloads_speaker, State.countOverloads_cabin, State.madeFrame_cabin, State.madeFrame_items,
    ← State.madeFrame_cabin s samples] at items
  refine ⟨fun unwatched => ?_, fun watched quiet => ?_, fun overloads => ?_⟩
  · rw [items, if_neg fun h => unwatched (event.mp (acts.mp h)).1, if_neg fun h => unwatched (detects.mp h)]
  · have counted := s.madeFrame_counted samples sp
    rw [State.madeFrame_items] at counted
    have no_event : sp ∉ (List.finRange 24).filter (s.madeFrame samples).overloads := fun h => by
      rw [acts.mp h] at quiet
      cases quiet
    rw [items, if_neg no_event, if_pos (detects.mpr watched), quiet, if_neg Bool.false_ne_true, counted]
  · rw [items, if_pos (acts.mpr overloads), if_pos (detects.mpr (event.mp overloads).1), overloads, if_pos rfl,
      State.madeFrame_cabin]

/-- The gate of a speaker closes in a frame exactly by an event whose mode closes it (R142, R149). -/
theorem State.countedFrame_gate :
    (s.countedFrame samples).mixer.gates[sp] ≠ s.mixer.gates[sp] ↔ s.shutInFrame samples sp := by
  obtain ⟨shut, stays⟩ := s.countedFrame_entry samples sp
  constructor
  · intro changed
    by_contra h
    exact changed (by rw [(stays h).1, State.madeFrame_gates])
  · intro h
    have opened := ((s.madeFrame_overloads samples sp).mp h.1).1.1
    rw [(shut h).1, opened]
    exact Bool.false_ne_true

/-- The frame and everything that it leaves alone. -/
theorem State.countedFrame_frame :
    s.countedFrame samples =
      { s with
        mixer := { s.mixer with
          clock := .running, lanes := (s.countedFrame samples).mixer.lanes
          gates := (s.countedFrame samples).mixer.gates, held := (s.countedFrame samples).mixer.held }
        eq := { s.eq with speakers := (s.countedFrame samples).eq.speakers }
        prot := { s.prot with
          speakers := (s.countedFrame samples).prot.speakers
          summary := (s.countedFrame samples).prot.summary }
        link := { s.link with notices := (s.countedFrame samples).link.notices } } := by
  obtain ⟨frame, -, -, -⟩ := s.countedFrame_acts samples
  obtain ⟨_, _, _, _, _, made, -⟩ := s.madeFrame_law samples
  generalize s.countedFrame samples = t at frame ⊢
  rw [State.countOverloads, made] at frame
  rw [frame]

theorem State.countedFrame_lane (k : MixId) :
    ((s.countedFrame samples).mixer.lanes[sp])[k] =
      if s.mixer.clock = .lost then ((s.mixer.lanes[sp])[k]).settle else ((s.mixer.lanes[sp])[k]).advance := by
  obtain ⟨frame, -, -, -⟩ := s.countedFrame_acts samples
  obtain ⟨lanes, _, _, _, _, made, moved, -⟩ := s.madeFrame_law samples
  have same : (s.countedFrame samples).mixer.lanes = lanes := by
    rw [frame, State.countOverloads_mixer, made]
  rw [same, moved]

theorem State.countedFrame_summary :
    (s.countedFrame samples).prot.summary = true ↔
      s.prot.summary = true ∨ ∃ sp, (s.madeFrame samples).overloads sp = true := by
  obtain ⟨-, -, summary, -⟩ := s.countedFrame_acts samples
  obtain ⟨_, _, _, _, _, made, -⟩ := s.madeFrame_law samples
  have same : (s.madeFrame samples).prot.summary = s.prot.summary := by rw [made]
  rw [summary, State.countOverloads_summary, State.countOverloads_cabin, State.madeFrame_cabin, same]
  refine or_congr_right (exists_congr fun sp => ?_)
  rw [List.mem_filter]
  simp only [List.mem_finRange, true_and]
  exact ⟨fun h => h.1, fun h => ⟨h, ((s.madeFrame_overloads samples sp).mp h).1.2⟩⟩

/-- The notice sets in which a frame's overload events raise PROTECT: CLOCK stands in them at the return of
frames (R130). -/
def State.returnedNotices : Vector NoticeSet 4 :=
  if s.mixer.clock = .lost ∧ s.ctl.mode ≠ .standby then noticed s.link.notices 0 .clock none
  else s.link.notices

theorem State.countedFrame_notices :
    ((∀ sp, ¬s.shutInFrame samples sp) → (s.countedFrame samples).link.notices = s.returnedNotices)
    ∧ ((∃ sp, s.shutInFrame samples sp) →
      (s.countedFrame samples).link.notices = noticed s.returnedNotices 0 .protect none) := by
  obtain ⟨-, -, -, notices⟩ := s.countedFrame_acts samples
  obtain ⟨_, _, _, _, _, made, -, -, -, -, -, returned⟩ := s.madeFrame_law samples
  have before : (s.madeFrame samples).link.notices = s.returnedNotices := by
    rw [made]
    exact returned
  have some_shut : (∃ sp ∈ (List.finRange 24).filter (s.madeFrame samples).overloads,
      (s.madeFrame samples).countOverloads.shuts sp = true) ↔ ∃ sp, s.shutInFrame samples sp := by
    refine exists_congr fun sp => ?_
    rw [State.shuts, State.countOverloads_cabin, List.mem_filter, State.shutInFrame, State.shuts]
    simp only [List.mem_finRange, true_and]
  rw [notices, State.countOverloads_link, before]
  exact ⟨fun none_shut => if_neg fun h => by
      obtain ⟨sp, shut⟩ := some_shut.mp h
      exact none_shut sp shut,
    fun h => if_pos (some_shut.mpr h)⟩

/-- A speaker's sections and sample after a frame, by its gate (R135, R136, R142). -/
theorem State.countedFrame_output :
    (s.countedFrame samples).eq.speakers[sp] =
      { s.eq.speakers[sp] with state := ((s.countedFrame samples).eq.speakers[sp]).state }
    ∧ (s.mixer.gates[sp] = false → (s.countedFrame samples).mixer.gates[sp] = false)
    ∧ ((s.countedFrame samples).mixer.gates[sp] = false →
      (s.countedFrame samples).mixer.held[sp] = 0
      ∧ ((s.countedFrame samples).eq.speakers[sp]).state = sectionsAtRest)
    ∧ ((s.countedFrame samples).mixer.gates[sp] = true →
      (s.countedFrame samples).mixer.held[sp] = (s.madeFrame samples).mixer.held[sp]
      ∧ ((s.countedFrame samples).eq.speakers[sp]).state = ((s.madeFrame samples).eq.speakers[sp]).state) := by
  obtain ⟨_, _, _, _, _, made, -, only_states, -, quiet, -⟩ := s.madeFrame_law samples
  have only_states : (s.madeFrame samples).eq.speakers[sp] =
      { s.eq.speakers[sp] with state := ((s.madeFrame samples).eq.speakers[sp]).state } := by
    rw [made]
    exact only_states sp
  have quiet : s.mixer.gates[sp] = false → (s.madeFrame samples).mixer.held[sp] = 0
      ∧ ((s.madeFrame samples).eq.speakers[sp]).state = sectionsAtRest := by
    rw [made]
    exact quiet sp
  obtain ⟨shut, stays⟩ := s.countedFrame_entry samples sp
  rw [State.madeFrame_gates] at stays
  by_cases h : s.shutInFrame samples sp
  · obtain ⟨gate, held, eq⟩ := shut h
    rw [gate, held, eq, only_states]
    exact ⟨rfl, fun _ => rfl, fun _ => ⟨rfl, rfl⟩, nofun⟩
  · obtain ⟨gate, held, eq⟩ := stays h
    rw [gate, held, eq]
    exact ⟨only_states, id, quiet, fun _ => ⟨rfl, rfl⟩⟩

/-- The frame's filter, whatever an event then makes of its output. -/
theorem State.madeFrame_filters (opened : s.mixer.gates[sp] = true) :
    Filters s.eq.speakers[sp]
      (if s.mixer.clock = .lost then sectionsAtRest else (s.eq.speakers[sp]).state)
      (s.mixHeard samples sp (s.countedFrame samples).mixer.lanes[sp])
      (s.madeFrame samples).mixer.held[sp] ((s.madeFrame samples).eq.speakers[sp]).state := by
  obtain ⟨frame, -, -, -⟩ := s.countedFrame_acts samples
  obtain ⟨lanes, _, _, _, _, made, -, -, filters, -⟩ := s.madeFrame_law samples
  have same : (s.countedFrame samples).mixer.lanes = lanes := by
    rw [frame, State.countOverloads_mixer, made]
  rw [same, made]
  exact filters sp opened

end

theorem sectionsAtRest_get (n : Fin 6) : sectionsAtRest[n] = ⟨0, 0, 0, 0⟩ := replicate_get _ n

theorem ProtMode.closes_iff {m : ProtMode} (on : m ≠ .off) : m.closes = true ↔ m ≠ .report := by
  cases m with
  | off => exact absurd rfl on
  | report => decide
  | retryFast | retrySlow | latch => decide

theorem State.shutInFrame_iff {s : State} {samples : Vector Sample 16} {sp : SpeakerId}
    (overloads : (s.madeFrame samples).overloads sp = true) :
    s.shutInFrame samples sp ↔ (s.cabin.speakers[sp]).protMode ≠ .report := by
  rw [State.shutInFrame, State.shuts, State.madeFrame_cabin,
    ProtMode.closes_iff ((s.madeFrame_overloads samples sp).mp overloads).1.2]
  exact and_iff_right overloads

/-- Settles O45. -/
theorem frameEventAdvancesTheSignalPath : Obligations.FrameEventAdvancesTheSignalPath := by
  intro s samples released
  refine ⟨{ s.countedFrame samples with mixer := { (s.countedFrame samples).mixer with inFrame := false } },
    fun sp => (s.madeFrame samples).mixer.held[sp], fun sp => ((s.madeFrame samples).eq.speakers[sp]).state, ?_⟩
  intro returned counter amplitude counted watched event
  have framed := exec_frameEvent released samples
  have gate_iff := s.countedFrame_gate samples
  have frame := s.countedFrame_frame samples
  have lanes := s.countedFrame_lane samples
  have outputs := s.countedFrame_output samples
  have filters := s.madeFrame_filters samples
  have all_items := s.countedFrame_items samples
  have summary := s.countedFrame_summary samples
  obtain ⟨quiet_notices, shut_notices⟩ := s.countedFrame_notices samples
  generalize s.countedFrame samples = t at *
  refine ⟨framed, ?frame, fun same => quiet_notices fun sp shut => (gate_iff sp).mpr shut (same sp),
    fun ⟨sp, changed⟩ => shut_notices ⟨sp, (gate_iff sp).mp changed⟩, fun sp k => ?lane, fun sp => ?output,
    fun sp => ?items, summary.trans ?summary⟩
  case frame =>
    conv_lhs => rw [frame]
  case lane =>
    have lane := lanes sp k
    refine ⟨fun lost => ?_, fun running ended => ?_, fun running moves => ?_⟩
    · rw [if_pos lost] at lane
      exact lane
    · rw [if_neg (by rw [running]; decide), MixLane.advance, if_neg (Nat.not_lt.mpr ended)] at lane
      exact lane
    · rw [if_neg (by rw [running]; decide), MixLane.advance, if_pos moves] at lane
      exact lane
  case output =>
    obtain ⟨only_states, stays_closed, quiet, heard⟩ := outputs sp
    refine ⟨only_states, stays_closed, fun closed => ⟨(quiet closed).1, fun n => ?_⟩,
      filters sp, heard⟩
    have rest := (quiet closed).2
    have entry := congrArg (fun v : Vector SectionState 6 => v[n]) rest
    exact entry.trans (sectionsAtRest_get n)
  case items =>
    obtain ⟨unwatched_items, counted_items, event_items⟩ := all_items sp
    have event_iff := s.madeFrame_overloads samples sp
    have stays (no_event : ¬event sp) : t.mixer.gates[sp] = s.mixer.gates[sp] := by
      by_contra changed
      exact no_event (event_iff.mp ((gate_iff sp).mp changed).1)
    refine ⟨fun unwatched => ⟨unwatched_items unwatched, stays fun h => unwatched h.1⟩,
      fun watches no_event => ⟨counted_items watches ?_, (stays no_event).trans watches.1⟩,
      fun happens => ?_⟩
    · exact Bool.eq_false_iff.mpr fun h => no_event (event_iff.mp h)
    · have overloads := event_iff.mpr happens
      have changes := (gate_iff sp).trans (State.shutInFrame_iff overloads)
      refine ⟨?_, ?_⟩
      · have now := event_items overloads
        have spec := SpeakerProt.overloaded_spec happens.1.2 s.prot.speakers[sp]
        rw [← now] at spec
        exact spec
      · rw [happens.1.1] at changes
        exact not_iff_not.mp changes
  case summary => exact or_congr_right (exists_congr fun sp => s.madeFrame_overloads samples sp)

end Sys2Proof.Machine
end

section
/-! PROOF. The signal path under every command: coefficients as sent, lanes as handed and moved, a speaker's
sections under the frame and the tone walk, and from them the ranges. -/
namespace Sys2Proof.Machine

/-- A speaker's sections and tone indices are in range (R136, R139). -/
def SpeakerEq.in24 (e : SpeakerEq) : Prop :=
  (∀ n : Fin 6, (e.state[n]).in24) ∧ (∀ n : Fin 4, (e.voicing[n]).in24) ∧ e.low.in24 ∧ e.high.in24
  ∧ -12 ≤ e.lowIndex ∧ e.lowIndex ≤ 12 ∧ -12 ≤ e.highIndex ∧ e.highIndex ≤ 12

theorem signalInv_iff (s : State) :
    SignalInv s ↔ (∀ sp : SpeakerId, Is24 s.mixer.held[sp] ∧ Is24 s.mixer.sending[sp])
      ∧ (∀ (sp : SpeakerId) (k : MixId), ((s.mixer.lanes[sp])[k]).sound)
      ∧ (∀ sp : SpeakerId, (s.eq.speakers[sp]).in24)
      ∧ ∀ n : Fin 25, (s.eq.toneLow[n]).in24 ∧ (s.eq.toneHigh[n]).in24 := Iff.rfl

/-- The invariant reads the samples, the Mixer's lanes and the Equaliser. -/
theorem SignalInv.congr {s t : State} (held : t.mixer.held = s.mixer.held)
    (sending : t.mixer.sending = s.mixer.sending) (lanes : t.mixer.lanes = s.mixer.lanes) (eq : t.eq = s.eq)
    (hs : SignalInv s) : SignalInv t := by
  have same : SignalInv t = SignalInv s := by simp only [SignalInv, held, sending, lanes, eq]
  exact same ▸ hs

/-! ### Coefficients -/

theorem leNat_lt (bs : List Byte) : leNat bs < 2 ^ (8 * bs.length) := by
  induction bs with
  | nil => decide
  | cons b bs ih =>
    have hb := b.isLt
    have size : 2 ^ (8 * (b :: bs).length) = 256 * 2 ^ (8 * bs.length) := by
      rw [List.length_cons, mul_add, pow_add, mul_comm]
      norm_num
    rw [leNat, size]
    omega

/-- Three bytes at most spell a 24-bit number (section 10.9). -/
theorem leInt_is24 {bs : List Byte} (h : bs.length ≤ 3) : Is24 (leInt bs) := by
  have range := leNat_lt bs
  unfold Is24 leInt
  generalize bs.length = n at h range ⊢
  interval_cases n <;> split <;> omega

theorem coeffsOf_in24 (bs : List Byte) : (coeffsOf bs).in24 := by
  have three (l : List Byte) : Is24 (leInt (l.take 3)) := leInt_is24 (List.length_take_le ..)
  exact ⟨three _, three _, three _, three _, three _⟩

theorem Coeffs.flat_in24 : Coeffs.flat.in24 := by
  unfold Coeffs.in24 Is24
  decide

theorem SectionState.rest_in24 : SectionState.rest.in24 := by
  unfold SectionState.in24 Is24
  decide

theorem toneAt_in24 {table : Vector Coeffs 25} (h : ∀ n : Fin 25, (table[n]).in24) (i : Int) :
    (toneAt table i).in24 := h _

/-! ### Lanes -/

theorem lin_range {q : Int} (low : -480 ≤ q) (high : q ≤ 48) : 0 ≤ lin q ∧ lin q ≤ 33554432 := by
  obtain ⟨-, -, -, -, range⟩ := linearGainFollowsTheTable
  obtain ⟨nonneg, -, loudest⟩ := range q q low le_rfl high
  exact ⟨nonneg, loudest⟩

theorem MixLane.silent_sound : MixLane.silent.sound := by
  unfold MixLane.sound
  decide

theorem MixLane.handed_sound {l : MixLane} (clock : ClockState) {goal : Int} (holder : Option SlotId)
    (low : -480 ≤ goal) (high : goal ≤ 48) (h : l.sound) : (l.handed clock goal holder).sound := by
  obtain ⟨gain_lo, gain_hi, start_lo, start_hi, -, -, frames⟩ := h
  cases clock with
  | running => exact ⟨gain_lo, gain_hi, gain_lo, gain_hi, low, high, Nat.zero_le _⟩
  | lost => exact ⟨gain_lo, gain_hi, start_lo, start_hi, low, high, frames⟩

theorem MixLane.settle_sound {l : MixLane} (h : l.sound) : l.settle.sound := by
  obtain ⟨-, -, start_lo, start_hi, goal_lo, goal_hi, -⟩ := h
  obtain ⟨gain_lo, gain_hi⟩ := lin_range goal_lo goal_hi
  exact ⟨gain_lo, gain_hi, start_lo, start_hi, goal_lo, goal_hi, le_rfl⟩

theorem MixLane.advance_sound {l : MixLane} (h : l.sound) : l.advance.sound := by
  unfold MixLane.advance
  split
  · next moves =>
    obtain ⟨-, -, start_lo, start_hi, goal_lo, goal_hi, -⟩ := h
    obtain ⟨gain_lo, gain_hi⟩ := lin_range goal_lo goal_hi
    have between := l.gainAt_between (j := l.frames + 1) moves
    exact ⟨by dsimp only; omega, by dsimp only; omega, start_lo, start_hi, goal_lo, goal_hi, moves⟩
  · exact h

/-! ### Sections -/

theorem SpeakerEq.in24_of_state {e : SpeakerEq} {states : Vector SectionState 6}
    (h : ∀ n : Fin 6, (states[n]).in24) (he : e.in24) : SpeakerEq.in24 { e with state := states } := by
  obtain ⟨-, rest⟩ := he
  exact ⟨h, rest⟩

theorem sectionsAtRest_in24 (n : Fin 6) : (sectionsAtRest[n]).in24 := by
  rw [sectionsAtRest, replicate_get]
  exact SectionState.rest_in24

theorem SpeakerEq.atIndices_in24 {e : SpeakerEq} {toneLow toneHigh : Vector Coeffs 25} {lo hi : Int}
    (low : ∀ n : Fin 25, (toneLow[n]).in24) (high : ∀ n : Fin 25, (toneHigh[n]).in24)
    (range : -12 ≤ lo ∧ lo ≤ 12 ∧ -12 ≤ hi ∧ hi ≤ 12) (he : e.in24) :
    (e.atIndices toneLow toneHigh lo hi).in24 := by
  obtain ⟨states, voicing, -⟩ := he
  exact ⟨states, voicing, toneAt_in24 low lo, toneAt_in24 high hi, range⟩

theorem stepToward_range {i target lo hi : Int} (hi_ : lo ≤ i ∧ i ≤ hi) (ht : lo ≤ target ∧ target ≤ hi) :
    lo ≤ stepToward i target ∧ stepToward i target ≤ hi := by
  unfold stepToward
  split_ifs <;> omega

/-- A step of the tone walk keeps a speaker in range, its targets being so (R139, R140). -/
theorem State.walked_in24 {s : State} (cabin : CabinInv s) (hs : SignalInv s) (sp : SpeakerId) :
    (s.walked sp).in24 := by
  obtain ⟨-, -, speakers, tones⟩ := (signalInv_iff s).mp hs
  obtain ⟨-, zones, -⟩ := cabin
  obtain ⟨-, -, -, -, treble_lo, treble_hi⟩ := zones (s.cabin.toneZoneOf sp)
  obtain ⟨-, -, -, -, low_lo, low_hi, high_lo, high_hi⟩ := id (speakers sp)
  unfold State.walked
  dsimp only
  split
  · obtain ⟨lo₁, hi₁⟩ := stepToward_range ⟨low_lo, low_hi⟩
      (clampTo_bounds (lo := -12) (hi := 12) (by decide)
        ((s.cabin.zones[s.cabin.toneZoneOf sp]).bass + s.bassLift (s.cabin.toneZoneOf sp)))
    obtain ⟨lo₂, hi₂⟩ := stepToward_range ⟨high_lo, high_hi⟩ ⟨treble_lo, treble_hi⟩
    obtain ⟨states, rest⟩ := SpeakerEq.atIndices_in24 (fun n => (tones n).1) (fun n => (tones n).2)
      ⟨lo₁, hi₁, lo₂, hi₂⟩ (speakers sp)
    exact ⟨states, rest⟩
  · exact speakers sp

/-! ### Every command -/

theorem signalInv_of_reset {t : State} (mixer : t.mixer = .reset) (eq : t.eq = .reset) : SignalInv t := by
  rw [signalInv_iff, mixer, eq]
  refine ⟨fun sp => ?_, fun sp k => ?_, fun sp => ?_, fun n => ?_⟩
  · simp only [Mixer.reset, replicate_get]
    exact ⟨is24_zero, is24_zero⟩
  · simp only [Mixer.reset, mixLanesSilent, replicate_get]
    exact MixLane.silent_sound
  · simp only [Equaliser.reset, replicate_get]
    refine ⟨sectionsAtRest_in24, fun n => ?_, Coeffs.flat_in24, Coeffs.flat_in24, by decide, by decide,
      by decide, by decide⟩
    rw [replicate_get]
    exact Coeffs.flat_in24
  · simp only [Equaliser.reset, replicate_get]
    exact ⟨Coeffs.flat_in24, Coeffs.flat_in24⟩

theorem powerOn_signalInv (lines : Lines) : SignalInv (State.powerOn lines) := signalInv_of_reset rfl rfl

theorem Takes.keeps_signalInv {k : Kind} {lane : LaneId} {fs : List Field} {s t : State}
    (h : Takes k lane fs s t) (hs : SignalInv s) : SignalInv t := by
  have ⟨samples, lanes, speakers, tones⟩ := (signalInv_iff s).mp hs
  cases h with
  | toneLow _ _ _ i bs =>
    refine (signalInv_iff _).mpr ⟨samples, lanes, speakers, fun n => ⟨?_, (tones n).2⟩⟩
    rw [upd_get]
    split
    · exact coeffsOf_in24 bs
    · exact (tones n).1
  | toneHigh _ _ _ i bs =>
    refine (signalInv_iff _).mpr ⟨samples, lanes, speakers, fun n => ⟨(tones n).1, ?_⟩⟩
    rw [upd_get]
    split
    · exact coeffsOf_in24 bs
    · exact (tones n).2
  | voicing _ _ _ sp bs =>
    refine (signalInv_iff _).mpr ⟨samples, lanes, fun other => ?_, tones⟩
    rw [upd_get]
    split
    · obtain ⟨states, -, rest⟩ := speakers other
      refine ⟨states, fun n => ?_, rest⟩
      match n with
      | 0 => exact coeffsOf_in24 bs
      | 1 => exact coeffsOf_in24 (bs.drop 15)
      | 2 => exact coeffsOf_in24 (bs.drop 30)
      | 3 => exact coeffsOf_in24 (bs.drop 45)
    · exact speakers other
  | _ => exact SignalInv.congr (s := s) rfl rfl rfl rfl hs

theorem OverloadsAct.keeps_signalInv {l : List SpeakerId} {s t : State} (h : OverloadsAct l s t)
    (hs : SignalInv s) : SignalInv t := by
  obtain ⟨samples, lanes, speakers, tones⟩ := (signalInv_iff s).mp hs
  obtain ⟨frame, entry, -, -⟩ := h
  have same : t.mixer.lanes = s.mixer.lanes ∧ t.mixer.sending = s.mixer.sending
      ∧ t.eq.toneLow = s.eq.toneLow ∧ t.eq.toneHigh = s.eq.toneHigh := by
    rw [frame]
    exact ⟨rfl, rfl, rfl, rfl⟩
  obtain ⟨same_lanes, same_sending, same_low, same_high⟩ := same
  rw [signalInv_iff, same_lanes, same_sending, same_low, same_high]
  refine ⟨fun sp => ⟨?_, (samples sp).2⟩, lanes, fun sp => ?_, tones⟩
  · obtain ⟨-, -, held, -⟩ := entry sp
    rw [held]
    split
    · exact is24_zero
    · exact (samples sp).1
  · obtain ⟨-, -, -, eq⟩ := entry sp
    rw [eq]
    split
    · exact SpeakerEq.in24_of_state sectionsAtRest_in24 (speakers sp)
    · exact speakers sp

theorem State.frame_keeps_signalInv {s : State} (samples : Vector Sample 16) (hs : SignalInv s) :
    SignalInv (s.frame samples) := by
  obtain ⟨before, lanes, speakers, tones⟩ := (signalInv_iff s).mp hs
  have frame := s.countedFrame_frame samples
  have moved := s.countedFrame_lane samples
  have outputs := s.countedFrame_output samples
  have filters := s.madeFrame_filters samples
  rw [State.frame_eq]
  generalize s.countedFrame samples = t at *
  have same : t.mixer.sending = s.mixer.sending ∧ t.eq.toneLow = s.eq.toneLow
      ∧ t.eq.toneHigh = s.eq.toneHigh := by
    rw [frame]
    exact ⟨rfl, rfl, rfl⟩
  obtain ⟨same_sending, same_low, same_high⟩ := same
  have output (sp : SpeakerId) : Is24 t.mixer.held[sp] ∧ ∀ n : Fin 6, ((t.eq.speakers[sp]).state[n]).in24 := by
    obtain ⟨-, stays_closed, quiet, heard⟩ := outputs sp
    cases gate : t.mixer.gates[sp] with
    | false =>
      obtain ⟨held, state⟩ := quiet gate
      rw [held, state]
      exact ⟨is24_zero, sectionsAtRest_in24⟩
    | true =>
      have opened : s.mixer.gates[sp] = true := by
        by_contra closed
        rw [stays_closed (Bool.eq_false_iff.mpr closed)] at gate
        cases gate
      obtain ⟨held, state⟩ := heard gate
      rw [held, state]
      refine (filters sp opened).in24 (is24_saturated _) fun n => ?_
      split
      · exact sectionsAtRest_in24 n
      · obtain ⟨states, -⟩ := speakers sp
        exact states n
  refine (signalInv_iff _).mpr ⟨fun sp => ⟨(output sp).1, ?_⟩, fun sp k => ?_, fun sp => ?_, fun n => ?_⟩
  · show Is24 t.mixer.sending[sp]
    rw [same_sending]
    exact (before sp).2
  · show ((t.mixer.lanes[sp])[k]).sound
    rw [moved]
    split
    · exact MixLane.settle_sound (lanes sp k)
    · exact MixLane.advance_sound (lanes sp k)
  · show (t.eq.speakers[sp]).in24
    obtain ⟨only_states, -⟩ := outputs sp
    rw [only_states]
    exact SpeakerEq.in24_of_state (output sp).2 (speakers sp)
  · show (t.eq.toneLow[n]).in24 ∧ (t.eq.toneHigh[n]).in24
    rw [same_low, same_high]
    exact tones n

/-- A pass hands the lanes gains of the grid it leaves (R109). -/
theorem State.stages_keeps_signalInv {s : State} (tables : TablesInv s) (grid : GridInv s)
    (hs : SignalInv s) : SignalInv s.stages := by
  obtain ⟨samples, lanes, speakers, tones⟩ := (signalInv_iff s).mp hs
  have goal (sp : SpeakerId) (k : MixId) :
      -480 ≤ (s.passGrid[sp]).handedGain k ∧ (s.passGrid[sp]).handedGain k ≤ 48 := by
    unfold Column.handedGain
    split
    · next i _ =>
      obtain ⟨-, -, lo, hi, -⟩ := State.passGrid_cellSound tables grid sp i
      exact ⟨lo, hi⟩
    · decide
  obtain ⟨-, ns, count, e, -⟩ := s.stages_law
  rw [e]
  generalize s.passGrid = g at goal
  refine (signalInv_iff _).mpr ⟨samples, fun sp k => ?_, speakers, tones⟩
  rw [ofFn_get, ofFn_get]
  exact MixLane.handed_sound _ _ (goal sp k).1 (goal sp k).2 (lanes sp k)

theorem Event.keeps_signalInv {c : Instr} {s t : State} (h : Event c s t) (cabin : CabinInv s)
    (tables : TablesInv s) (grid : GridInv s) (hs : SignalInv s) : SignalInv t := by
  have ⟨samples, lanes, speakers, tones⟩ := (signalInv_iff s).mp hs
  cases h with
  | powerOn lines => exact powerOn_signalInv lines
  | rstNRelease lines => exact signalInv_of_reset rfl rfl
  | rstNAssert =>
    refine (signalInv_iff _).mpr ⟨fun sp => ?_, lanes, speakers, tones⟩
    simp only [replicate_get]
    exact ⟨is24_zero, is24_zero⟩
  | standby =>
    refine (signalInv_iff _).mpr ⟨fun sp => ?_, fun sp k => ?_, fun sp => ?_, fun n => ?_⟩
    · simp only [State.enterStandby, Mixer.standby, replicate_get]
      exact ⟨is24_zero, is24_zero⟩
    · simp only [State.enterStandby, Mixer.standby, mixLanesSilent, replicate_get]
      exact MixLane.silent_sound
    · simp only [State.enterStandby, Equaliser.standby, ofFn_get]
      have zero := SpeakerEq.atIndices_in24 (fun n => (tones n).1) (fun n => (tones n).2)
        (lo := 0) (hi := 0) (by decide) (speakers sp)
      obtain ⟨-, rest⟩ := zero
      exact ⟨sectionsAtRest_in24, rest⟩
    · simp only [State.enterStandby, Equaliser.standby]
      exact tones n
  | wakeUpEnds =>
    rw [State.raise]
    refine (signalInv_iff _).mpr ⟨samples, lanes, fun sp => ?_, tones⟩
    rw [ofFn_get]
    exact speakers sp
  | passReport => exact SignalInv.congr (s := s) rfl rfl rfl rfl hs
  | pass _ _ _ _ _ _ _ _ _ _ _ _ passed =>
    obtain ⟨_, _, _, _, _, _, taken, -⟩ := s.takeReport_frame
    have taken_tables : TablesInv s.takeReport := by
      rw [taken]
      exact tables
    have taken_signal : SignalInv s.takeReport := by
      rw [taken]
      exact SignalInv.congr (s := s) rfl rfl rfl rfl hs
    exact passed ▸ State.stages_keeps_signalInv taken_tables (State.takeReport_keeps_gridInv grid) taken_signal
  | toneWalk =>
    refine (signalInv_iff _).mpr ⟨samples, lanes, fun sp => ?_, tones⟩
    rw [ofFn_get]
    exact State.walked_in24 cabin hs sp
  | frame samples _ _ framed _ => exact framed ▸ State.frame_keeps_signalInv samples hs
  | fsyncEdge => exact (signalInv_iff _).mpr ⟨fun sp => ⟨(samples sp).1, (samples sp).1⟩, lanes, speakers, tones⟩
  | clockLoss =>
    refine (signalInv_iff _).mpr ⟨fun sp => ⟨?_, (samples sp).2⟩, lanes, speakers, tones⟩
    rw [replicate_get]
    exact is24_zero
  | overload sp _ _ _ _ acted _ =>
    rw [← acted]
    refine (State.overload_acts _ sp).keeps_signalInv ?_
    exact SignalInv.congr (s := s) rfl rfl rfl rfl hs
  | clearPulse =>
    rw [State.clearProtection, State.wakeRises]
    exact SignalInv.congr (s := s) rfl rfl rfl rfl hs
  | awarnSample =>
    rw [State.protMillisecond]
    exact SignalInv.congr (s := s) rfl rfl rfl rfl hs
  | _ => exact SignalInv.congr (s := s) rfl rfl rfl rfl hs

/-- What SignalInv leans on, and it. -/
def SignalContext (s : State) : Prop :=
  CabinInv s ∧ (TableInv s ∧ TablesInv s ∧ GridInv s) ∧ SignalInv s

theorem exec_keeps_signalContext {c : Instr} {s t : State} (h : exec c s = .next t) (hs : SignalContext s) :
    SignalContext t := by
  obtain ⟨cabin, grid, signal⟩ := hs
  refine ⟨exec_keeps (fun _ _ h => h) Takes.keeps_cabinInv Event.keeps_cabinInv h cabin,
    exec_keeps_gridInv h grid, ?_⟩
  cases hc : isPacket c with
  | true =>
    exact packet_keeps (fun s l hs => SignalInv.congr (s := s) rfl rfl rfl rfl hs)
      (fun k lane fs s => (owner_takes k lane fs s).keeps_signalInv) hc h signal
  | false => exact (exec_event hc h).keeps_signalInv cabin grid.2.1 grid.2.2 signal

/-- Settles O60. -/
theorem signalPathStaysInRange : Obligations.SignalPathStaysInRange :=
  fun _ _ cabin tables table grid signal h =>
    (step_keeps (P := SignalContext) (fun _ _ h => h) exec_keeps_signalContext h
      ⟨cabin, ⟨table, tables, grid⟩, signal⟩).2.2

/-- Settles O54. -/
theorem resetMeetsTheInvariants : Obligations.ResetMeetsTheInvariants := fun lines =>
  ⟨powerOn_cabinInv lines, powerOn_tablesInv lines, powerOn_speedInv lines, powerOn_tableInv lines,
    gridInv_of_silent rfl, powerOn_protectionInv lines, powerOn_linkInv lines, powerOn_modeInv lines,
    powerOn_signalInv lines⟩

end Sys2Proof.Machine
end

section
/-! PROOF. Every command answers and keeps the queue, and the Mode Controller's events: reset, WAKE, STANDBY,
the wake-up and the end of LEAVING, and the crank cause. -/
namespace Sys2Proof.Machine

/-! ### Every command answers a next state -/

theorem answers_ite {p : Prop} [Decidable p] {a b : Host.Outcome State Fault Refusal}
    (ha : ∃ t, a = .next t) (hb : ∃ t, b = .next t) : ∃ t, (if p then a else b) = .next t := by
  split
  · exact ha
  · exact hb

/-- Every packet command is one request, and every other command answers in each branch of its definition. -/
theorem exec_answers (c : Instr) (s : State) : ∃ t, exec c s = .next t := by
  cases c
  case wakeFall =>
    refine answers_ite ⟨_, rfl⟩ ?_
    split <;> exact ⟨_, rfl⟩
  case faultClearPulse =>
    refine answers_ite ⟨_, rfl⟩ ?_
    split <;> exact ⟨_, rfl⟩
  case packetWindowBegin =>
    show ∃ t, execPacketWindowBegin s = .next t
    unfold execPacketWindowBegin
    split
    · exact answers_ite ⟨_, rfl⟩ ⟨_, rfl⟩
    all_goals exact ⟨_, rfl⟩
  case pass | passReport | endOfLeaving | slewStep | toneWalkExpiry | frameEvent | frameBegin | frameDiscard
      | awarnSample | crankNSample | routeTableMillisecondEvent =>
    exact answers_ite ⟨_, rfl⟩ ⟨_, rfl⟩
  case entryToStandby | wakeUp | wakeUpStopped | endOfWakeUp | holdTimerExpiry | staleTimerExpiry
      | retryTimerExpiry | escalationWindowExpiry | thermalHoldExpiry | crankReleaseTimerExpiry =>
    exact answers_ite ⟨_, rfl⟩ (answers_ite ⟨_, rfl⟩ ⟨_, rfl⟩)
  case clockLoss | overloadEvent =>
    exact answers_ite ⟨_, rfl⟩ (answers_ite ⟨_, rfl⟩ (answers_ite ⟨_, rfl⟩ ⟨_, rfl⟩))
  all_goals exact ⟨_, rfl⟩

theorem Takes.pending {k : Kind} {lane : LaneId} {fs : List Field} {s t : State} (h : Takes k lane fs s t) :
    t.pending = s.pending := by
  cases h with
  | run => rw [State.raise_noticed]
  | _ => rfl

theorem FrameOnly.pending {s t : State} (h : FrameOnly s t) : t.pending = s.pending := by
  obtain ⟨_, _, _, _, _, _, _, _, _, rfl, -⟩ := h
  rfl

theorem Event.pending {c : Instr} {s t : State} (h : Event c s t) : t.pending = s.pending := by
  cases h with
  | wakeUpEnds => rw [State.raise_noticed]
  | frame _ _ _ _ only => exact FrameOnly.pending only
  | overload _ _ _ _ _ _ only => exact FrameOnly.pending only
  | _ => rfl

/-- Settles O2: no command has a fault or a refusal, and the queue stands in no owner's and no event's
change. -/
theorem everyCommandAnswersAndKeepsTheQueue : Obligations.EveryCommandAnswersAndKeepsTheQueue := by
  intro c s
  obtain ⟨t, h⟩ := exec_answers c s
  refine ⟨t, h, ?_⟩
  exact exec_keeps (P := fun t => t.pending = s.pending) (fun _ _ h => h)
    (fun takes h => takes.pending.trans h) (fun event h => event.pending.trans h) h rfl

/-- Settles O1, by the equations of the step. -/
theorem stepRunsTheFrontCommand : Obligations.StepRunsTheFrontCommand := by
  refine ⟨fun c rest s => rfl, fun s empty => ?_⟩
  unfold step
  rw [empty]

end Sys2Proof.Machine
end

section
/-! PROOF. The Mode Controller's events: reset, WAKE, STANDBY, the wake-up and the end of LEAVING, the crank
cause, and the frame clock's edges. -/
namespace Sys2Proof.Machine

/-! ### Reset -/

/-- A packet whose window is not taken leaves no trace but the window's end. -/
theorem packet_untaken {c : Instr} (hc : isPacket c = true) {s : State} (untaken : s.windowFixed = none) :
    exec c s = .next s.dropWindow := by
  obtain ⟨t, h⟩ := exec_answers c s
  rcases packet_outcome hc h with rfl | ⟨n, u, ⟨f, taken, -⟩, -⟩
  · exact h
  · rw [untaken] at taken
    cases taken

theorem State.windowFixed_of_untaken {s : State}
    (h : s.pins.rstAsserted = true ∨ s.ctl.mode = .standby ∨ s.link.window = .ignored) :
    s.windowFixed = none := by
  unfold State.windowFixed State.takesPackets
  rcases h with h | h | h
  · rw [h]; rfl
  · rw [h]; simp
  · rw [h]; simp

/-- What the reset commands, and a command in reset, do to everything outside the chip-select window. -/
theorem Event.in_reset {c : Instr} (hc : isPacket c = false) {s t : State} (reset : s.pins.rstAsserted = true)
    (h : exec c s = .next t) :
    (∃ lines, c = .powerOn lines ∨ c = .rstNRelease lines) ∨ c = .rstNAssert
      ∨ t = { s with link := { s.link with window := t.link.window, sdo := t.link.sdo } } := by
  have guarded (o : Host.Outcome State Fault Refusal)
      (h : (if s.pins.rstAsserted = true then .next s else o) = .next t) :
      t = { s with link := { s.link with window := t.link.window, sdo := t.link.sdo } } := by
    rw [if_pos reset] at h
    cases h
    rfl
  cases c
  case powerOn lines => exact .inl ⟨lines, .inl rfl⟩
  case rstNRelease lines => exact .inl ⟨lines, .inr rfl⟩
  case rstNAssert => exact .inr (.inl rfl)
  case packetWindowBegin =>
    have e : exec .packetWindowBegin s = execPacketWindowBegin s := rfl
    rw [e, execPacketWindowBegin] at h
    split at h
    · split at h <;> cases h <;> exact .inr (.inr rfl)
    all_goals
      cases h
      exact .inr (.inr rfl)
  case wakeFall | faultClearPulse | entryToStandby | wakeUp | wakeUpStopped | endOfWakeUp | endOfLeaving | pass
      | passReport | holdTimerExpiry | slewStep | staleTimerExpiry | toneWalkExpiry | frameEvent | frameDiscard
      | clockLoss | overloadEvent | retryTimerExpiry | escalationWindowExpiry | awarnSample | thermalHoldExpiry
      | crankNSample | crankReleaseTimerExpiry | routeTableMillisecondEvent | frameBegin =>
    exact .inr (.inr (guarded _ h))
  all_goals cases hc

/-- Settles O15: the resets by their definitions, the hold by the guard that every event carries. -/
theorem resetHoldsThePart : Obligations.ResetHoldsThePart := by
  refine ⟨fun lines s => ⟨rfl, s.link.window.abandon, rfl⟩, fun s => ?_, fun c s t reset h => ?_⟩
  · refine ⟨_, rfl, rfl, rfl, rfl, fun sp => ?_⟩
    show BitVec.ofInt 24 (Vector.replicate 24 (0 : Int))[sp] ++ 0#8 = 0#32
    rw [replicate_get]
    rfl
  · cases hc : isPacket c with
    | true =>
      rw [packet_untaken hc (State.windowFixed_of_untaken (.inl reset))] at h
      cases h
      exact .inr (.inr rfl)
    | false => exact Event.in_reset hc reset h

/-- Settles O14: both resets give the power-on values, whose vectors hold one value in every place. -/
theorem resetSetsEveryBlock : Obligations.ResetSetsEveryBlock := by
  intro lines s t h
  have values : ∃ window, t =
      { State.powerOn lines with
        pending := s.pending, free := s.free
        link := { (State.powerOn lines).link with window := window } } := by
    rcases h with h | h <;> cases h
    · exact ⟨.idle, rfl⟩
    · exact ⟨s.link.window.abandon, rfl⟩
  obtain ⟨window, rfl⟩ := values
  refine ⟨rfl, rfl, rfl, rfl, rfl, rfl, ?wakeUp, replicate_get _, replicate_get _, rfl, rfl, rfl,
    fun i => ⟨replicate_get _ i, replicate_get _ i⟩, rfl, rfl, rfl, rfl, rfl, rfl, rfl, rfl, fun c i => ?curves,
    fun sp i => ?cells, fun sp k => ?lanes, rfl, rfl, fun sp => ?speakers,
    fun n => ⟨replicate_get _ n, replicate_get _ n⟩, rfl, fun port => ofFn_get _ port, rfl, rfl, rfl, rfl, rfl,
    fun lane => ⟨replicate_get _ lane, ?latest, fun k => ?kinds⟩⟩
  case wakeUp =>
    show (if lines.wakeHigh = true then some 2 else none).isSome = true ↔ lines.wakeHigh = true
    cases lines.wakeHigh <;> simp
  case curves =>
    show ((Vector.replicate 4 flatCurve)[c])[i] = _
    rw [replicate_get]
    exact ofFn_get _ i
  case cells =>
    show ((Vector.replicate 24 Column.silent)[sp]).cells[i] = _
    rw [replicate_get]
    exact replicate_get _ i
  case lanes =>
    have column : (Vector.replicate 24 Column.silent)[sp] = .silent := replicate_get _ sp
    have lane : (mixLanesSilent[sp])[k] = .silent := by
      rw [mixLanesSilent, replicate_get, replicate_get]
    exact ⟨(congrArg (·.lanes[k]) column).trans (replicate_get _ k), congrArg MixLane.holder lane,
      congrArg MixLane.gain lane, congrArg MixLane.goal lane, congrArg MixLane.frames lane⟩
  case speakers =>
    have speaker : Equaliser.reset.speakers[sp] = _ := replicate_get _ sp
    refine ⟨replicate_get _ sp, replicate_get _ sp, fun n => ?_, congrArg SpeakerEq.low speaker,
      congrArg SpeakerEq.high speaker, fun n => ?_, congrArg SpeakerEq.lowIndex speaker,
      congrArg SpeakerEq.highIndex speaker, congrArg SpeakerEq.walk speaker, replicate_get _ sp⟩
    · exact (congrArg (·.voicing[n]) speaker).trans (replicate_get _ n)
    · exact (congrArg (·.state[n]) speaker).trans (sectionsAtRest_get n)
  case latest => exact congrArg NoticeSet.latest (replicate_get NoticeSet.empty lane)
  case kinds => exact (congrArg (·.kinds[k]) (replicate_get NoticeSet.empty lane)).trans (replicate_get _ k)

end Sys2Proof.Machine
end

section
/-! PROOF. The Mode Controller's other events: WAKE, STANDBY, the wake-up, the end of LEAVING and the crank
cause; and the frame clock's edges. -/
namespace Sys2Proof.Machine

/-- Outside reset a guarded event is taken. -/
theorem guarded_taken {s : State} {o : Host.Outcome State Fault Refusal} (awake : s.pins.rstAsserted = false) :
    (if s.pins.rstAsserted = true then .next s else o) = o := by
  rw [awake]
  rfl

/-! ### WAKE and the wake-up -/

theorem lowMeaning_pulse {ns : Nat} (low : 2000 ≤ ns) (high : ns < 100000) : lowMeaning ns = .pulse := by
  rw [lowMeaning, if_neg (by omega), if_pos high]

/-- Settles O16, by the line's state, the low's length and the mode. -/
theorem wakeLowsActByTheirLength : Obligations.WakeLowsActByTheirLength := by
  intro s awake
  have pulse (ns : Nat) : exec (.faultClearPulse ns) s = _ := guarded_taken awake
  refine ⟨fun short => ?fall, fun ns short => ?ignored, fun ns low high on => ?clears, fun ns low high off => ?wakes,
    fun off => ?wakeUp, fun off waking => ?stopped⟩
  case fall =>
    refine (guarded_taken awake).trans ?_
    split
    · next long => exact absurd long short
    all_goals rfl
  case ignored =>
    refine (pulse ns).trans ?_
    rw [lowMeaning, if_pos short]
    rfl
  case clears =>
    refine (pulse ns).trans ?_
    rw [lowMeaning_pulse low high]
    cases mode : s.ctl.mode with
    | standby => exact absurd mode on
    | _ => rfl
  case wakes =>
    refine (pulse ns).trans ?_
    rw [lowMeaning_pulse low high, off]
    rfl
  case wakeUp =>
    refine (guarded_taken awake).trans ?_
    rw [if_pos off]
    rfl
  case stopped =>
    refine (guarded_taken awake).trans ?_
    rw [if_pos ⟨off, waking⟩]

/-- Settles O17, from what the end of the wake-up writes and what an empty table in LEAVING does. -/
theorem wakeUpAndLeavingEndInSetup : Obligations.WakeUpAndLeavingEndInSetup := by
  refine ⟨fun s awake off waking => ?_, fun s awake leaving empty => ?_⟩
  · refine ⟨_, (guarded_taken awake).trans (if_pos ⟨off, waking⟩), ?_, fun sp => ?_⟩
    · rw [State.raise_noticed]
    · rw [State.raise_noticed]
      exact ofFn_get _ sp
  · refine (guarded_taken awake).trans ?_
    rcases s.leaveIfEmpty_cases with ⟨-, -, e⟩ | ⟨stays, -⟩
    · rw [e, State.endLeaving, State.raise_noticed]
    · exact absurd ⟨leaving, empty⟩ stays

/-! ### STANDBY -/

theorem State.attnLow_of_standby {s : State} (off : s.ctl.mode = .standby) : s.attnLow = false := by
  simp [State.attnLow, off]

theorem toneAt_zero (table : Vector Coeffs 25) : toneAt table 0 = table[(12 : Fin 25)] := rfl

theorem RouteTable.freeEvery_slot (table : RouteTable) (i : SlotId) :
    (table.freeEvery.slots[i]).gen = (table.slots[i]).gen ∧ (table.freeEvery.slots[i]).route = none := by
  have slot : table.freeEvery.slots[i] = _ := ofFn_get _ i
  rw [slot]
  exact ⟨rfl, rfl⟩

theorem Equaliser.standby_tables (e : Equaliser) :
    e.standby.toneLow = e.toneLow ∧ e.standby.toneHigh = e.toneHigh := by
  rw [Equaliser.standby]
  exact ⟨rfl, rfl⟩

theorem Equaliser.standby_speaker (e : Equaliser) (sp : SpeakerId) :
    (∀ n : Fin 6, (e.standby.speakers[sp]).state[n] = ⟨0, 0, 0, 0⟩)
    ∧ (e.standby.speakers[sp]).voicing = (e.speakers[sp]).voicing
    ∧ (e.standby.speakers[sp]).lowIndex = 0 ∧ (e.standby.speakers[sp]).highIndex = 0
    ∧ (e.standby.speakers[sp]).low = e.toneLow[(12 : Fin 25)]
    ∧ (e.standby.speakers[sp]).high = e.toneHigh[(12 : Fin 25)]
    ∧ (e.standby.speakers[sp]).walk = none := by
  have speaker : e.standby.speakers[sp] = _ := ofFn_get _ sp
  rw [speaker, SpeakerEq.atIndices, toneAt_zero, toneAt_zero]
  exact ⟨sectionsAtRest_get, rfl, rfl, rfl, rfl, rfl, rfl⟩

/-- Settles O18, from what each block clears and keeps at entry to STANDBY. -/
theorem standbyClearsAndKeeps : Obligations.StandbyClearsAndKeeps := by
  intro s crank awarn awake
  refine ⟨fun off => (guarded_taken awake).trans (if_pos off), fun on => ?_⟩
  refine ⟨s.enterStandby crank awarn, (guarded_taken awake).trans (if_neg on), ?_⟩
  rw [State.enterStandby, RouteTable.freeEvery, SpeedMonitor.standby, Mixer.standby, Link.standby]
  obtain ⟨toneLow, toneHigh⟩ := s.eq.standby_tables
  refine ⟨rfl, rfl, rfl, rfl, rfl, rfl, rfl, rfl, rfl, rfl, rfl, rfl, toneLow, toneHigh, rfl, rfl, rfl, fun i => ?slots, rfl, rfl, rfl, rfl,
    fun sp => ⟨fun i => ?cells, fun k => ?lanes, replicate_get _ sp, replicate_get _ sp, ?sections⟩, rfl,
    fun port => ofFn_get _ port, rfl, rfl, rfl, rfl, rfl, fun lane k => ?notices, fun idle => ?idle,
    fun busy => ?busy, rfl, ?attention⟩
  case slots =>
    obtain ⟨gen, route⟩ := s.table.freeEvery_slot i
    exact ⟨gen, route, replicate_get _ i⟩
  case cells =>
    have column : (Vector.replicate 24 Column.silent)[sp] = .silent := replicate_get _ sp
    exact (congrArg (·.cells[i]) column).trans (replicate_get _ i)
  case lanes =>
    have column : (Vector.replicate 24 Column.silent)[sp] = .silent := replicate_get _ sp
    have lane : (mixLanesSilent[sp])[k] = .silent := by
      rw [mixLanesSilent, replicate_get, replicate_get]
    exact ⟨(congrArg (·.lanes[k]) column).trans (replicate_get _ k), congrArg MixLane.holder lane,
      congrArg MixLane.gain lane, congrArg MixLane.goal lane, congrArg MixLane.frames lane⟩
  case sections =>
    obtain ⟨state, voicing, lowIndex, highIndex, low, high, walk⟩ := s.eq.standby_speaker sp
    exact ⟨state, voicing, lowIndex, highIndex, low, high, walk, replicate_get _ sp⟩
  case notices =>
    have set : (Vector.replicate 4 NoticeSet.empty)[lane] = .empty := replicate_get _ lane
    exact ⟨congrArg NoticeSet.latest set, (congrArg (·.kinds[k]) set).trans (replicate_get _ k)⟩
  case idle =>
    show s.link.window.abandon = .idle
    rw [idle]
    rfl
  case busy =>
    show s.link.window.abandon = .ignored
    cases window : s.link.window with
    | idle => exact absurd window busy
    | _ => rfl
  case attention => exact State.attnLow_of_standby rfl

/-! ### The crank cause -/

theorem ModeControl.countCrank_law {c : ModeControl} {n : Nat} (runs : c.crankTimer = some n) :
    (n = 1 → c.countCrank.crank = false ∧ c.countCrank.crankTimer = none)
    ∧ (1 < n → c.countCrank.crank = c.crank ∧ c.countCrank.crankTimer = some (n - 1)) := by
  refine ⟨fun last => ?_, fun more => ?_⟩ <;> rw [ModeControl.countCrank, runs]
  · subst last
    exact ⟨rfl, rfl⟩
  · rw [expiresNext_large more, countDown_large more]
    exact ⟨rfl, rfl⟩

/-- R173's table of the line, the cause and the timer. -/
theorem ModeControl.crankMillisecond_law (c : ModeControl) (asserted : Bool)
    (present : c.crankTimer.isSome = true → c.crank = true) :
    (asserted = true →
      (c.crankMillisecond asserted).crank = true ∧ (c.crankMillisecond asserted).crankTimer = none)
    ∧ (asserted = false → c.crank = false →
      (c.crankMillisecond asserted).crank = false ∧ (c.crankMillisecond asserted).crankTimer = none)
    ∧ (asserted = false → c.crank = true → c.crankTimer = none →
      (c.crankDelay = 0 →
        (c.crankMillisecond asserted).crank = false ∧ (c.crankMillisecond asserted).crankTimer = none)
      ∧ (c.crankDelay ≠ 0 →
        (c.crankMillisecond asserted).crank = true
        ∧ (c.crankMillisecond asserted).crankTimer = some c.crankDelay))
    ∧ ∀ n, asserted = false → c.crankTimer = some n →
      (n = 1 → (c.crankMillisecond asserted).crank = false ∧ (c.crankMillisecond asserted).crankTimer = none)
      ∧ (1 < n →
        (c.crankMillisecond asserted).crank = true ∧ (c.crankMillisecond asserted).crankTimer = some (n - 1)) := by
  refine ⟨fun low => ?low, fun high absent => ?absent, fun high on stopped => ?starts, fun n high runs => ?counts⟩
  case low =>
    obtain ⟨_, _, crank, _, _, _, _⟩ := c
    subst low
    cases crank <;> exact ⟨rfl, rfl⟩
  case absent =>
    obtain ⟨_, _, crank, timer, _, _, _⟩ := c
    cases timer with
    | none =>
      subst high absent
      exact ⟨rfl, rfl⟩
    | some n => exact absurd (absent.symm.trans (present rfl)) nofun
  case starts =>
    have started : c.crankMillisecond asserted =
        if c.crankDelay = 0 then { c with crank := false } else { c with crankTimer := some c.crankDelay } := by
      obtain ⟨_, _, crank, timer, _, _, _⟩ := c
      subst high on stopped
      rfl
    rw [started]
    refine ⟨fun zero => ?_, fun positive => ?_⟩
    · rw [if_pos zero]
      exact ⟨rfl, stopped⟩
    · rw [if_neg positive]
      exact ⟨on, rfl⟩
  case counts =>
    have on : c.crank = true := present (by rw [runs]; rfl)
    have counted : c.crankMillisecond asserted = c.countCrank := by
      obtain ⟨_, _, crank, timer, _, _, _⟩ := c
      subst high on runs
      rfl
    rw [counted, ← on]
    exact ModeControl.countCrank_law runs

theorem exec_setCrankDelay (w : Window) (s : State) :
    exec (.setCrankDelay w) s = .next (s.request .setCrankDelay w takeSetCrankDelay) := rfl

theorem takeSetCrankDelay_value {fs : List Field} {v : Nat} (value : natField fs 0x12#8 = some v) (lane : LaneId)
    (u : State) :
    takeSetCrankDelay lane fs u =
      ({ u with ctl := { u.ctl with crankDelay := min v 2000 } }, .taken (decide (2000 < v))) := by
  have clamped : min v 2000 ≠ v ↔ 2000 < v := by omega
  simp only [takeSetCrankDelay, value, clampNat_zero, clamped]

/-- Settles O13: the line and the timer by R173's table, and the request from its owner's answer. -/
theorem crankCauseAndDelay : Obligations.CrankCauseAndDelay := by
  refine ⟨⟨fun s asserted awake inv => ?line, fun s awake runs => (guarded_taken awake).trans (if_pos runs)⟩,
    headLaneOnly_of_headOnly rfl exec_setCrankDelay, fun s w fs u ha => ?request⟩
  case line =>
    obtain ⟨-, present, -⟩ := inv
    refine ⟨_, _, (guarded_taken awake).trans ?_, s.ctl.crankMillisecond_law asserted present⟩
    obtain ⟨crank, timer, e⟩ := s.ctl.crankMillisecond_frame asserted
    rw [e]
  case request =>
    rw [exec_setCrankDelay, State.request_admitted ha]
    refine ⟨fun missing => ?_, fun v value => ?_⟩
    · rw [takeSetCrankDelay, missing, State.answer_eq, Answer.payload_plain, State.replied]
    · rw [takeSetCrankDelay_value value, State.answer_eq, Answer.payload_taken decide_eq_true_iff]
      rfl

/-! ### The frame clock -/

/-- Settles O44, from what an FSYNC edge and the loss of the clock write. -/
theorem frameEdgesAndClockLoss : Obligations.FrameEdgesAndClockLoss := by
  refine ⟨fun s awake => ⟨250, guarded_taken awake, guarded_taken awake⟩, fun s awake running => ⟨0, ?_⟩⟩
  have on : ¬s.mixer.clock = .lost := by
    rw [running]
    nofun
  refine (guarded_taken awake).trans ((if_neg on).trans ?_)
  dsimp only
  split
  · rfl
  · rw [State.raise_noticed]

end Sys2Proof.Machine
end

section
/-! PROOF. The millisecond events and expiries of the Speed Monitor, the tone walk and the Protection Monitor,
CLEAR_PROTECT, and the overload event as a command. -/
namespace Sys2Proof.Machine

/-! ### The Speed Monitor -/

theorem State.goStale_fresh {s : State} (fresh : s.speed.freshness = .fresh) :
    s.goStale =
      { s with
        speed := { s.speed with freshness := .stale, staleTimer := none }
        link := { s.link with notices := noticed s.link.notices 0 .stale none } } := by
  rw [State.goStale, if_pos fresh, State.raise_noticed]

theorem slewed_law (effective reported : Nat) :
    (effective < reported → slewed effective reported = effective + 1)
    ∧ (reported < effective → slewed effective reported + 1 = effective)
    ∧ (effective = reported → slewed effective reported = effective) := by
  unfold slewed
  split_ifs <;> omega

/-- The effective speed after a millisecond event (R76). -/
def SpeedMonitor.slew (m : SpeedMonitor) : Nat :=
  if m.freshness = .fresh then slewed m.effective m.reported else m.effective

theorem State.speedMillisecond_eq (s : State) :
    s.speedMillisecond =
      if expiresNext s.speed.staleTimer then
        State.goStale { s with speed := { s.speed with effective := s.speed.slew } }
      else { s with speed := { s.speed with
        effective := s.speed.slew, staleTimer := countDown s.speed.staleTimer } } := rfl

/-- Settles O26: the slew and the count by R76, the expiry by R74, the state FRESH while the timer runs. -/
theorem effectiveSpeedSlewsWhileFresh : Obligations.EffectiveSpeedSlewsWhileFresh := by
  refine ⟨fun s awake inv => ?event, fun s awake => ⟨fun fresh last => ?expiry, fun more => ?early⟩⟩
  case event =>
    obtain ⟨-, -, -, -, running, -⟩ := inv
    obtain ⟨up, down, still⟩ := slewed_law s.speed.effective s.speed.reported
    have moves (fresh : s.speed.freshness = .fresh) :
        s.speed.slew = slewed s.speed.effective s.speed.reported := if_pos fresh
    have event : exec .slewStep s = .next s.speedMillisecond := guarded_taken awake
    refine ⟨s.speed.slew, fun stale => ?_, fun fresh => moves fresh ▸ up, fun fresh => moves fresh ▸ down,
      fun fresh => moves fresh ▸ still, fun stopped => ?_, fun last => ?_, fun n left more => ?_⟩
    · rw [SpeedMonitor.slew, stale]
      rfl
    · have stays : countDown s.speed.staleTimer = s.speed.staleTimer := by rw [stopped, countDown_none]
      rw [event, s.speedMillisecond_eq, stays, stopped, if_neg (by decide), ← stopped]
    · rw [event, s.speedMillisecond_eq, last, expiresNext_one, if_pos rfl]
      exact congrArg _ (State.goStale_fresh (running.mpr (by rw [last]; rfl)))
    · rw [event, s.speedMillisecond_eq, left, expiresNext_large more, countDown_large more]
      rfl
  case expiry =>
    refine (guarded_taken awake).trans ?_
    rw [last, expiresNext_one, if_pos rfl, State.goStale_fresh fresh]
  case early =>
    refine (guarded_taken awake).trans (if_neg fun expires => ?_)
    cases timer : s.speed.staleTimer with
    | none =>
      rw [timer] at expires
      cases expires
    | some n =>
      rw [timer, expiresNext_large (more n timer)] at expires
      cases expires

/-! ### The tone walk -/

theorem stepToward_eq (i target : Int) : stepToward i target = i + (target - i).sign := by
  unfold stepToward
  split_ifs with up down
  · rw [Int.sign_eq_one_of_pos (by omega)]
  · rw [Int.sign_eq_neg_one_of_neg (by omega)]
    rfl
  · rw [show target - i = 0 by omega, Int.sign_zero, add_zero]

theorem toneAt_entry (table : Vector Coeffs 25) {i : Int} {n : Fin 25} (at_n : (n.val : Int) = i + 12) :
    toneAt table i = table[n] := by
  unfold toneAt
  congr 1
  apply Fin.ext
  show (clampTo 0 24 (i + 12)).toNat = n.val
  rw [clampTo_eq (by decide)]
  omega

theorem State.lowTarget_eq (s : State) (sp : SpeakerId) :
    s.lowTarget sp =
      max (-12) (min 12 ((s.cabin.zones[s.cabin.toneZoneOf sp]).bass
        + (s.speedTerm (s.cabin.toneZoneOf sp)).fdiv 12)) := by
  rw [State.lowTarget, State.bassLift, clampTo_eq (by decide), min_comm, Int.fdiv_eq_ediv_of_nonneg _ (by decide)]

/-- Settles O47, from what one speaker's walk writes: the entries at the indices it has stepped to. -/
theorem toneWalksOneStepToItsTarget : Obligations.ToneWalksOneStepToItsTarget := by
  intro s awake _
  refine ⟨_, guarded_taken awake, rfl, fun sp => ?_⟩
  dsimp only
  rw [ofFn_get]
  refine ⟨fun stopped => ?_, fun runs _ _ => ?_⟩
  · rw [State.walked, stopped]
    rfl
  · have walked : s.walked sp =
        { (s.eq.speakers[sp]).atIndices s.eq.toneLow s.eq.toneHigh
            (stepToward (s.eq.speakers[sp]).lowIndex (s.lowTarget sp))
            (stepToward (s.eq.speakers[sp]).highIndex (s.highTarget sp)) with walk := some 16 } := if_pos runs
    rw [walked]
    refine ⟨rfl, ?_, stepToward_eq _ _, fun n => toneAt_entry _, fun n => toneAt_entry _⟩
    refine (stepToward_eq _ _).trans ?_
    rw [State.lowTarget_eq]
    rfl

end Sys2Proof.Machine
end

section
/-! PROOF. The Protection Monitor: CLEAR_PROTECT and the single expiries, the millisecond event, and the
overload event as a command. -/
namespace Sys2Proof.Machine

/-! ### Clearing and the single expiries -/

theorem exec_clearProtect (w : Window) (s : State) :
    exec (.clearProtect w) s = .next (s.request .clearProtect w takeClearProtect) := rfl

/-- Settles O48: the request from its owner's answer, and each expiry by its definition. -/
theorem protectionIsClearedAndRecovers : Obligations.ProtectionIsClearedAndRecovers := by
  refine ⟨⟨headLaneOnly_of_headOnly rfl exec_clearProtect, fun s w fs u ha => ?clear⟩,
    fun s sp awake runs => (guarded_taken awake).trans (if_pos runs),
    fun s sp awake runs => (guarded_taken awake).trans (if_pos runs),
    fun s port awake runs => (guarded_taken awake).trans (if_pos runs)⟩
  case clear =>
    rw [exec_clearProtect, State.request_admitted ha, takeClearProtect, State.answer_eq, Answer.payload_plain]
    rfl

/-! ### The millisecond event -/

theorem PortThermal.hold_of_state {p : PortThermal} (sound : p.sound) (state : p.state ≠ .holding) :
    p.hold = none := by
  by_contra running
  exact state (sound.1.mp (Option.isSome_iff_ne_none.mpr running))

/-- R157's table for one port. -/
theorem PortThermal.millisecond_law {p : PortThermal} (sound : p.sound) (asserted : Bool) :
    (asserted = true → p.millisecond asserted = ⟨.warned, none⟩)
    ∧ (asserted = false → p.state = .clear → p.millisecond asserted = ⟨.clear, none⟩)
    ∧ (asserted = false → p.state = .warned → p.millisecond asserted = ⟨.holding, some 2000⟩)
    ∧ (asserted = false → p.hold = some 1 → p.millisecond asserted = ⟨.clear, none⟩)
    ∧ ∀ n, asserted = false → p.hold = some n → 1 < n → p.millisecond asserted = ⟨.holding, some (n - 1)⟩ := by
  have holding {n : Nat} (runs : p.hold = some n) : p.state = .holding := sound.1.mp (by rw [runs]; rfl)
  have stopped := PortThermal.hold_of_state sound
  obtain ⟨state, hold⟩ := p
  refine ⟨fun low => ?low, fun high clear => ?clear, fun high warned => ?warned, fun high last => ?last,
    fun n high left more => ?left⟩
  case low =>
    subst low
    cases state with
    | clear =>
      cases stopped nofun
      rfl
    | warned =>
      cases stopped nofun
      rfl
    | holding => rfl
  case clear =>
    subst high clear
    cases stopped nofun
    rfl
  case warned =>
    subst high warned
    rfl
  case last =>
    cases holding last
    subst high last
    rfl
  case left =>
    cases holding left
    subst high left
    have counted : PortThermal.millisecond ⟨.holding, some n⟩ false = PortThermal.count ⟨.holding, some n⟩ := rfl
    have runs : ¬expiresNext (some n) = true := by rw [expiresNext_large more]; nofun
    rw [counted, PortThermal.count, if_neg runs, countDown_large more]

/-- R153 and R154 for one speaker's timers. -/
theorem SpeakerProt.count_law {p : SpeakerProt} {gate summary : Bool} {e : SpeakerEntry}
    (sound : p.sound gate e summary) :
    (p.retry = some 1 →
      p.count = { p with state := .normal, counter := 0, retry := none, window := some 2000 })
    ∧ (p.retry ≠ some 1 → expiresNext p.retry = false)
    ∧ (∀ n, p.retry = some n → p.retry ≠ some 1 → p.count = { p with retry := some (n - 1) })
    ∧ (p.retry = none →
      (p.window = none → p.count = p)
      ∧ (p.window = some 1 → p.count = { p with window := none, repeats := 0 })
      ∧ ∀ n, p.window = some n → 1 < n → p.count = { p with window := some (n - 1) }) := by
  obtain ⟨-, retry, window, retry_range, -⟩ := sound
  have above {n : Nat} (left : p.retry = some n) (more : p.retry ≠ some 1) : 1 < n := by
    have := retry_range n left
    have : n ≠ 1 := fun e => more (e ▸ left)
    omega
  have runs (more : p.retry ≠ some 1) : expiresNext p.retry = false := by
    cases left : p.retry with
    | none => rfl
    | some n => exact expiresNext_large (above left more)
  refine ⟨fun last => ?last, runs, fun n left more => ?left, fun none_left => ?window⟩
  case last =>
    rw [SpeakerProt.count, last]
    rfl
  case left =>
    have no_window : p.window = none := by
      by_contra running
      have normal := window (Option.isSome_iff_ne_none.mpr running)
      rw [retry.mp (by rw [left]; rfl)] at normal
      cases normal
    rw [SpeakerProt.count_of_runs (runs more), left, countDown_large (above left more), no_window, countDown_none,
      if_neg (by decide), ← no_window]
  case window =>
    have counted := SpeakerProt.count_of_runs (p := p) (by rw [none_left]; rfl)
    have stays : countDown p.retry = p.retry := by rw [none_left, countDown_none]
    rw [counted, stays]
    refine ⟨fun stopped => ?_, fun last => ?_, fun n left more => ?_⟩
    · rw [stopped, countDown_none, if_neg (by decide), ← stopped]
    · rw [last]
      rfl
    · rw [left, expiresNext_large more, countDown_large more]
      rfl

/-- Settles O50, port by port and speaker by speaker. -/
theorem thermalLinesAndTimersAreCounted : Obligations.ThermalLinesAndTimersAreCounted := by
  intro s awarn awake inv
  obtain ⟨speakers, ports⟩ := inv
  refine ⟨s.protMillisecond awarn, guarded_taken awake, rfl, fun port => ?port, fun sp => ?speaker⟩
  case port =>
    have event : (s.protMillisecond awarn).prot.ports[port] = (s.prot.ports[port]).millisecond awarn[port] :=
      ofFn_get _ port
    dsimp only
    rw [event]
    exact PortThermal.millisecond_law (ports port) awarn[port]
  case speaker =>
    have event : (s.protMillisecond awarn).prot.speakers[sp] = (s.prot.speakers[sp]).count := ofFn_get _ sp
    have gate : (s.protMillisecond awarn).mixer.gates[sp] =
        if expiresNext (s.prot.speakers[sp]).retry then true else s.mixer.gates[sp] := ofFn_get _ sp
    obtain ⟨last, runs, left, window⟩ := SpeakerProt.count_law (speakers sp)
    dsimp only
    rw [event, gate]
    refine ⟨fun one => ⟨last one, ?_⟩, fun more => ⟨?_, fun n at_n => left n at_n more, window⟩⟩
    · rw [one]
      rfl
    · rw [runs more]
      rfl

/-! ### The overload event as a command -/

theorem exec_overloadEvent {s : State} {sp : SpeakerId} (awake : s.pins.rstAsserted = false)
    (on : s.ctl.mode ≠ .standby) (running : s.mixer.clock = .running) (gate : s.mixer.gates[sp] = true)
    (mode : (s.cabin.speakers[sp]).protMode ≠ .off) :
    exec (.overloadEvent sp) s = .next ((s.setProt sp fun p => { p with counter := 0 }).overload sp) := by
  refine (guarded_taken awake).trans ((if_neg ?_).trans (if_pos ⟨gate, mode⟩))
  rw [running]
  rintro (off | lost)
  · exact on off
  · cases lost

/-- Settles O49: where no event occurs nothing happens, and an event acts as its law says on items whose
frame counter is 0. -/
theorem overloadActsByProtectionMode : Obligations.OverloadActsByProtectionMode := by
  refine ⟨fun s sp none_occurs => ?idle, fun s sp awake on running gate => ⟨fun report => ?report,
    fun now mode => ?closes⟩⟩
  case idle =>
    cases awake : s.pins.rstAsserted with
    | true => exact if_pos awake
    | false =>
      refine (guarded_taken awake).trans ?_
      split
      · rfl
      · next takes =>
        refine if_neg fun ⟨gate, mode⟩ => ?_
        rcases none_occurs with lost | off | shut | no_mode
        · exact takes (.inr lost)
        · exact takes (.inl off)
        · rw [gate] at shut
          cases shut
        · exact mode no_mode
  case report =>
    rw [exec_overloadEvent awake on running gate (by rw [report]; decide)]
    have reports : (s.setProt sp fun p => { p with counter := 0 }).overload sp =
        { s with prot := { s.prot with
          speakers := upd s.prot.speakers sp fun p => { p with counter := 0, report := true }, summary := true } } := by
      have mode : ((s.setProt sp fun p => { p with counter := 0 }).cabin.speakers[sp]).protMode = .report := report
      rw [State.overload, mode]
      simp only [State.setProt, upd_upd]
    rw [reports]
    exact ⟨_, rfl, upd_self .., fun other hne => upd_ne _ _ _ _ hne⟩
  case closes =>
    have acted : (s.cabin.speakers[sp]).protMode.closes = true
        ∧ SpeakerProt.overloaded { s.prot.speakers[sp] with counter := 0 } (s.cabin.speakers[sp]).protMode =
          now := by
      have spec (m : ProtMode) (watched : m ≠ .off) := SpeakerProt.overloaded_spec watched s.prot.speakers[sp]
      rcases mode with ⟨m, below, rfl⟩ | ⟨m, below, rfl⟩ | ⟨m | m, reached, rfl⟩ | ⟨m, rfl⟩ <;> rw [m]
      · exact ⟨rfl, (spec .retryFast nofun).1 below⟩
      · exact ⟨rfl, (spec .retrySlow nofun).1 below⟩
      · exact ⟨rfl, (spec .retryFast nofun).2 reached⟩
      · exact ⟨rfl, (spec .retrySlow nofun).2 reached⟩
      · exact ⟨rfl, spec .latch nofun⟩
    obtain ⟨closes, items⟩ := acted
    have watched : (s.cabin.speakers[sp]).protMode ≠ .off := fun off => by
      rw [off] at closes
      cases closes
    refine ⟨_, exec_overloadEvent awake on running gate watched, ?_⟩
    obtain ⟨frame, entry, summary, notices⟩ := (s.setProt sp fun p => { p with counter := 0 }).overload_acts sp
    have shuts : (s.setProt sp fun p => { p with counter := 0 }).shuts sp = true := closes
    have before : (s.setProt sp fun p => { p with counter := 0 }).prot.speakers =
        upd s.prot.speakers sp fun p => { p with counter := 0 } := rfl
    rw [before] at entry
    generalize (s.setProt sp fun p => { p with counter := 0 }).overload sp = t at frame entry summary notices ⊢
    rw [if_pos ⟨sp, List.mem_singleton_self sp, shuts⟩] at notices
    replace summary := summary.mpr (.inr ⟨sp, List.mem_singleton_self sp, watched⟩)
    refine ⟨frame.trans ?_, ?_⟩
    · rw [summary, notices]
      rfl
    obtain ⟨prot, gates, held, sections⟩ := entry sp
    rw [if_pos (List.mem_singleton_self sp), upd_get, if_pos rfl] at prot
    rw [if_pos ⟨List.mem_singleton_self sp, shuts⟩] at gates held sections
    refine ⟨prot.trans items, gates, held, ?_, fun n => ?_, fun other hne => ?_⟩
    · rw [sections]
      rfl
    · rw [sections]
      exact sectionsAtRest_get n
    · obtain ⟨prot, gates, held, sections⟩ := entry other
      have apart : other ∉ [sp] := fun only => hne (List.mem_singleton.mp only)
      rw [if_neg apart, upd_get, if_neg hne] at prot
      rw [if_neg fun both => apart both.1] at gates held sections
      exact ⟨prot, gates, held, sections⟩

end Sys2Proof.Machine
end

section
/-! PROOF. The duck term, the targets of a pass, and its report and glides, from what the six stages of a pass
leave. -/
namespace Sys2Proof.Machine

/-! ### The duck term -/

/-- The largest value of f over a list, from m on. -/
theorem foldl_max_law {α : Type} (f : α → Nat) (l : List α) (m : Nat) :
    m ≤ l.foldl (fun m a => max m (f a)) m
    ∧ (∀ a ∈ l, f a ≤ l.foldl (fun m a => max m (f a)) m)
    ∧ (l.foldl (fun m a => max m (f a)) m = m ∨ ∃ a ∈ l, l.foldl (fun m a => max m (f a)) m = f a) := by
  induction l generalizing m with
  | nil => exact ⟨le_rfl, nofun, .inl rfl⟩
  | cons a rest ih =>
    obtain ⟨start, above, attained⟩ := ih (max m (f a))
    rw [List.foldl_cons]
    refine ⟨(le_max_left _ _).trans start, fun b hb => ?_, ?_⟩
    · rcases List.mem_cons.mp hb with rfl | hb
      · exact (le_max_right _ _).trans start
      · exact above b hb
    · rcases attained with e | ⟨b, hb, e⟩
      · rcases max_choice m (f a) with e' | e'
        · exact .inl (e.trans e')
        · exact .inr ⟨a, List.mem_cons_self, e.trans e'⟩
      · exact .inr ⟨b, List.mem_cons_of_mem _ hb, e⟩

theorem State.effectiveZones_of_route {s : State} {i : SlotId} {r : Route} (hr : s.routeAt i = some r) :
    s.effectiveZones i = if s.prec.spill[i] then 15#4 else r.zones := by
  rw [State.effectiveZones, hr]

/-- One route ducks another exactly when it stands against it (R56). -/
theorem State.ducks_iff {s : State} {a i : SlotId} {r : Route} {z : Zone} (hr : s.routeAt i = some r) :
    s.ducks a i z = true ↔ ∃ ra, StandsAgainst s a ra i r z := by
  cases ha : s.routeAt a with
  | none => simp [State.ducks, StandsAgainst, ha]
  | some ra =>
    simp only [State.ducks, StandsAgainst, ha, hr, State.effectiveZones_of_route ha, State.effectiveZones_of_route hr,
      Route.active, Bool.and_eq_true, Bool.or_eq_true, decide_eq_true_eq, Option.some.injEq, and_assoc,
      exists_eq_left']

theorem State.duckEntry_of_routes {s : State} {a i : SlotId} {ra r : Route} (ha : s.routeAt a = some ra)
    (hr : s.routeAt i = some r) : s.duckEntry a i = (s.prec.duck[ra.cls.index])[r.cls.index] := by
  rw [State.duckEntry, ha, hr]

/-- Settles O36: the term is the largest entry over the slots whose routes stand against the route. -/
theorem duckTermIsTheStrongestEntry : Obligations.DuckTermIsTheStrongestEntry := by
  intro s i r z hr
  refine ⟨fun alert => ?_, fun ducked => ?_⟩
  · rw [State.duckTerm, hr]
    exact if_pos alert
  · have term : s.duckTerm i z =
        ((List.finRange 32).filter fun a => s.ducks a i z).foldl (fun m a => max m (s.duckEntry a i)) 0 := by
      rw [State.duckTerm, hr]
      exact if_neg ducked
    obtain ⟨-, above, attained⟩ :=
      foldl_max_law (fun a => s.duckEntry a i) ((List.finRange 32).filter fun a => s.ducks a i z) 0
    rw [← term] at above attained
    refine ⟨fun a ra stands => ?_, attained.imp_right fun ⟨a, ha, e⟩ => ?_⟩
    · rw [← State.duckEntry_of_routes stands.1 hr]
      exact above a (List.mem_filter.mpr ⟨List.mem_finRange a, (State.ducks_iff hr).mpr ⟨ra, stands⟩⟩)
    · obtain ⟨ra, stands⟩ := (State.ducks_iff hr).mp (List.mem_filter.mp ha).2
      exact ⟨a, ra, stands, e.trans (State.duckEntry_of_routes stands.1 hr)⟩

/-! ### A pass as its stages -/

theorem exec_pass_stages {s : State} (awake : s.pins.rstAsserted = false) (taken : s.table.report = none) :
    exec .pass s = .next s.stages := by
  have none_taken : s.takeReport = s := by rw [State.takeReport, taken]
  refine (guarded_taken awake).trans ?_
  rw [none_taken]

theorem stages_of_pass {s t : State} (awake : s.pins.rstAsserted = false) (taken : s.table.report = none)
    (h : exec .pass s = .next t) : s.stages = t :=
  Host.Outcome.next.inj ((exec_pass_stages awake taken).symm.trans h)

theorem State.stages_grid (s : State) : s.stages.grid = s.passGrid := by
  obtain ⟨_, _, _, e, -⟩ := s.stages_law
  rw [e]

theorem State.stages_prec (s : State) : s.stages.prec = s.spilled.prec := by
  obtain ⟨_, _, _, e, -⟩ := s.stages_law
  rw [e]

/-! ### The targets -/

/-- The lead zone of a SHARED speaker's route (R16). -/
theorem Cabin.leadZone_eq_some {c : Cabin} {cls : RouteClass} {zs : ZoneSet} {z : Zone} :
    c.leadZone cls zs = some z ↔
      (zs.getLsbD z.val = true ∧ (cls = .alert ∨ (c.zones[z]).mute = false))
      ∧ ∀ z' : Zone, z' < z → ¬(zs.getLsbD z'.val = true ∧ (cls = .alert ∨ (c.zones[z']).mute = false)) := by
  rw [Cabin.leadZone, ← Fin.find?_eq_find?_finRange, Fin.find?_eq_some_iff]
  simp only [← Bool.not_eq_true, Bool.and_eq_true, Bool.or_eq_true, decide_eq_true_eq, Bool.not_eq_true']

/-- The governing zone of a cell: a ZONED speaker's own zone, a SHARED speaker's lead zone (R15 to R17). -/
theorem Cabin.governing_eq_some {c : Cabin} {cls : RouteClass} {zs : ZoneSet} {sp : SpeakerId} {z : Zone} :
    c.governing cls zs sp = some z ↔
      match (c.speakers[sp]).place with
      | .zoned own => own = z ∧ zs.getLsbD z.val = true
      | .shared => c.leadZone cls zs = some z := by
  rw [Cabin.governing]
  cases (c.speakers[sp]).place with
  | shared => rfl
  | zoned own =>
    dsimp only
    split
    · next reached =>
      rw [Option.some.injEq]
      exact ⟨fun e => ⟨e, e ▸ reached⟩, And.left⟩
    · next unreached =>
      refine ⟨nofun, fun ⟨e, reached⟩ => ?_⟩
      subst e
      exact absurd reached unreached

theorem State.targetOf_ungoverned {s : State} {i : SlotId} {r : Route} {sp : SpeakerId}
    (h : s.cabin.governing r.cls (s.effectiveZones i) sp = none) : s.targetOf i r sp = -480 := by
  rw [State.targetOf, h]

theorem State.targetOf_silencedCell {s : State} {i : SlotId} {r : Route} {sp : SpeakerId} {z : Zone}
    (h : s.cabin.governing r.cls (s.effectiveZones i) sp = some z) (silenced : s.silencedCell r sp z = true) :
    s.targetOf i r sp = -480 := by
  simp only [State.targetOf, h]
  rw [if_pos silenced]

theorem State.targetOf_heard {s : State} {i : SlotId} {r : Route} {sp : SpeakerId} {z : Zone} {b f : Int}
    (h : s.cabin.governing r.cls (s.effectiveZones i) sp = some z) (heard : s.silencedCell r sp z = false)
    (bal : balanceAtt r.placed.balance (s.cabin.speakers[sp]).side = some b)
    (fade : fadeAtt r.placed.fade (s.cabin.speakers[sp]).row = some f) :
    s.targetOf i r sp =
      if s.duckTerm i z = 480 then -480 else clampTo (-480) 48 (s.gainSum i r sp z b f) := by
  simp only [State.targetOf, h, bal, fade]
  rw [if_neg (Bool.eq_false_iff.mp heard)]

/-- A cell whose route is placed away from the speaker (R93). -/
theorem State.targetOf_unplaced {s : State} {i : SlotId} {r : Route} {sp : SpeakerId}
    (h : balanceAtt r.placed.balance (s.cabin.speakers[sp]).side = none
      ∨ fadeAtt r.placed.fade (s.cabin.speakers[sp]).row = none) : s.targetOf i r sp = -480 := by
  unfold State.targetOf
  split
  · rfl
  · split
    · rfl
    · split
      · next hb hf =>
        rw [hb, hf] at h
        rcases h with h | h <;> cases h
      · rfl

/-- A cell whose route is ducked altogether (R93). -/
theorem State.targetOf_ducked {s : State} {i : SlotId} {r : Route} {sp : SpeakerId} {z : Zone}
    (h : s.cabin.governing r.cls (s.effectiveZones i) sp = some z) (ducked : s.duckTerm i z = 480) :
    s.targetOf i r sp = -480 := by
  simp only [State.targetOf, h, ducked]
  split
  · rfl
  · split <;> rfl

theorem State.silencedCell_eq_true {s : State} {r : Route} {sp : SpeakerId} {z : Zone} :
    s.silencedCell r sp z = true ↔
      r.state = .closing ∨ (s.cabin.speakers[sp]).present = false ∨ (s.prot.speakers[sp]).state ≠ .normal
      ∨ s.ctl.host = true ∨ s.ctl.crank = true
      ∨ r.cls ≠ .alert ∧ (s.cabin.masterMute = true ∨ (s.cabin.zones[z]).mute = true) := by
  simp only [State.silencedCell, State.hushed, Bool.or_eq_true, Bool.and_eq_true, decide_eq_true_eq,
    Bool.not_eq_true', or_assoc]

theorem PortThermal.hot_iff (p : PortThermal) : p.hot = true ↔ p.state ≠ .clear := decide_eq_true_iff

/-- The sum of R94 with its two terms that an ALERT route goes without taken together. -/
theorem State.gainSum_eq (s : State) (i : SlotId) (r : Route) (sp : SpeakerId) (z : Zone) (b f : Int) :
    s.gainSum i r sp z b f =
      r.level + (if r.cls = .alert then 0 else s.cabin.masterLevel + (s.cabin.zones[z]).level)
        - b - f + (if r.followsSpeed then s.speedTerm z else 0) - s.duckTerm i z + (s.cabin.speakers[sp]).trim
        - (if (s.prot.ports[portOf sp]).state ≠ .clear then 24 else 0) := by
  rw [State.gainSum]
  simp only [PortThermal.hot_iff]
  by_cases alert : r.cls = .alert
  · rw [if_pos alert, if_pos alert, if_pos alert, add_zero]
  · rw [if_neg alert, if_neg alert, if_neg alert, add_assoc r.level]

/-- Settles O38: the target of a cell of the pass is that of its route under the spill flags just decided. -/
theorem passComputesEveryTarget : Obligations.PassComputesEveryTarget := by
  intro s t i r sp awake taken h hr
  obtain rfl : s.stages = t := stages_of_pass awake taken h
  have passed : ((s.stages.grid[sp]).cells[i]).target =
      if (s.prot.speakers[sp]).state ≠ .normal then -480
      else State.targetOf { s with prec := s.stages.prec } i r sp := by
    rw [s.stages_grid, State.passGrid_target hr, s.stages_prec, State.spilled]
  generalize s.stages.prec = p at passed ⊢
  generalize ((s.stages.grid[sp]).cells[i]).target = v at passed ⊢
  intro u e target zones leads governs bal fade
  have hr' : u.routeAt i = some r := hr
  have reach : u.effectiveZones i = zones := State.effectiveZones_of_route hr'
  have governing (z : Zone) : u.cabin.governing r.cls (u.effectiveZones i) sp = some z ↔ governs z := by
    rw [reach, Cabin.governing_eq_some]
    show _ ↔ match (s.cabin.speakers[sp]).place with
      | .zoned own => own = z ∧ zones.getLsbD z.val = true
      | .shared => leads z ∧ ∀ z' : Zone, z' < z → ¬leads z'
    cases (s.cabin.speakers[sp]).place with
    | zoned own => rfl
    | shared => exact Cabin.leadZone_eq_some
  have target_eq : target = if (s.prot.speakers[sp]).state ≠ .normal then -480 else u.targetOf i r sp := passed
  have silent (h : u.targetOf i r sp = -480) : target = -480 := by
    rw [target_eq, h, ite_self]
  have silenced (h : ∀ z, u.silencedCell r sp z = true) : target = -480 := silent (State.targetOf_of_silenced h)
  refine ⟨fun conditions => ?silence, fun z governed => ?governed⟩
  case silence =>
    rcases conditions with c | c | c | c | c | ⟨on, c⟩ | c | c | c
    · exact silenced fun z => State.silencedCell_eq_true.mpr (.inl c)
    · exact silenced fun z => State.silencedCell_eq_true.mpr (.inr (.inl c))
    · exact silenced fun z => State.silencedCell_eq_true.mpr (.inr (.inr (.inl c)))
    · exact silenced fun z => State.silencedCell_eq_true.mpr (.inr (.inr (.inr (.inl c))))
    · exact silenced fun z => State.silencedCell_eq_true.mpr (.inr (.inr (.inr (.inr (.inl c)))))
    · exact silenced fun z => State.silencedCell_eq_true.mpr (.inr (.inr (.inr (.inr (.inr ⟨on, .inl c⟩)))))
    · exact silent (State.targetOf_unplaced (.inl c))
    · exact silent (State.targetOf_unplaced (.inr c))
    · refine silent (State.targetOf_ungoverned ?_)
      cases g : u.cabin.governing r.cls (u.effectiveZones i) sp with
      | none => rfl
      | some z => exact absurd ((governing z).mp g) (c z)
  case governed =>
    have g := (governing z).mpr governed
    refine ⟨fun muted => ?_, fun b f active present normal host crank hb hf open_zone duck => ?_⟩
    · rcases muted with ⟨on, muted⟩ | ducked
      · exact silent (State.targetOf_silencedCell g
          (State.silencedCell_eq_true.mpr (.inr (.inr (.inr (.inr (.inr ⟨on, .inr muted⟩)))))))
      · exact silent (State.targetOf_ducked g ducked)
    · have heard : u.silencedCell r sp z = false := by
        rw [Bool.eq_false_iff, ne_eq, State.silencedCell_eq_true]
        rintro (c | c | c | c | c | ⟨on, c | c⟩)
        · exact active c
        · exact absurd (present.symm.trans c) nofun
        · exact c normal
        · exact absurd (host.symm.trans c) nofun
        · exact absurd (crank.symm.trans c) nofun
        · exact absurd ((open_zone on).1.symm.trans c) nofun
        · exact absurd ((open_zone on).2.symm.trans c) nofun
      rw [target_eq, if_neg (not_not.mpr normal), State.targetOf_heard g heard hb hf, if_neg duck,
        clampTo_eq (by decide), min_comm]
      have speed : u.speedTerm z = s.speedTerm z := rfl
      rw [State.gainSum_eq, speed]

end Sys2Proof.Machine
end

section
/-! PROOF. What a pass reports and hands to the Mixer, and what it decides and keeps. -/
namespace Sys2Proof.Machine

/-! ### The report and the glides -/

theorem State.isSettled_iff (s : State) (i : SlotId) :
    s.isSettled i = true ↔ ∀ sp : SpeakerId, (s.grid[sp]).holds i = true →
      ((s.grid[sp]).cells[i]).applied = ((s.grid[sp]).cells[i]).target := by
  simp only [State.isSettled, toList_eq_map, List.all_map, List.all_eq_true, List.mem_finRange, true_imp_iff,
    Function.comp_apply, Bool.or_eq_true, Bool.not_eq_true', decide_eq_true_eq, ← Bool.not_eq_true,
    or_iff_not_imp_left, not_not]

theorem State.routeIn_iff (s : State) (i : SlotId) (st : RouteState) :
    s.routeIn i st = true ↔ ∃ r, s.routeAt i = some r ∧ r.state = st := by
  rw [State.routeIn]
  cases s.routeAt i with
  | none => simp
  | some r => simp

theorem State.mem_passReport_settled {s : State} {h : Handle} :
    h ∈ s.passReport.settled ↔ ∃ (i : SlotId) (r : Route), h = s.handleAt i ∧ s.routeAt i = some r
      ∧ r.state = .opening
      ∧ ∀ sp : SpeakerId, (s.grid[sp]).holds i = true →
          ((s.grid[sp]).cells[i]).applied = ((s.grid[sp]).cells[i]).target := by
  simp only [State.passReport, List.mem_map, List.mem_filter, List.mem_finRange, true_and, Bool.and_eq_true,
    State.routeIn_iff, State.isSettled_iff]
  constructor
  · rintro ⟨i, ⟨⟨r, hr, opening⟩, settled⟩, rfl⟩
    exact ⟨i, r, rfl, hr, opening, settled⟩
  · rintro ⟨i, r, rfl, hr, opening, settled⟩
    exact ⟨i, ⟨⟨r, hr, opening⟩, settled⟩, rfl⟩

/-- Settles O41: the report is read off the grid that the pass leaves, and so is what every lane is handed. -/
theorem passReportsAndStartsGlides : Obligations.PassReportsAndStartsGlides := by
  intro s t awake taken h
  obtain rfl : s.stages = t := stages_of_pass awake taken h
  have grid := s.stages_grid
  obtain ⟨_, _, _, e, -⟩ := s.stages_law
  have report : s.stages.table.report = some ({ s with grid := s.passGrid } : State).passReport := by rw [e]
  have lanes : s.stages.mixer.lanes = Vector.ofFn fun sp => Vector.ofFn fun k =>
      ((s.mixer.lanes[sp])[k]).handed s.mixer.clock ((s.passGrid[sp]).handedGain k) (s.passGrid[sp]).lanes[k] := by
    rw [e]
  rw [grid, report, lanes]
  generalize s.passGrid = g
  refine ⟨⟨_, rfl, fun h => State.mem_passReport_settled, fun h => State.mem_passReport_silent⟩, fun sp k => ?_⟩
  dsimp only
  rw [ofFn_get, ofFn_get]
  refine ⟨fun running => ?_, fun lost => ?_⟩
  · rw [running]
    rfl
  · rw [lost]
    rfl

/-! ### What a pass decides and keeps -/

/-- A holder that the yield step names is marked, and a mark stays (R118). -/
theorem Column.yieldFor_marks {ranked l : List SlotId} {i : SlotId} (col : Column)
    (h : i ∈ (Column.yieldFor ranked col l).2 ∨ (col.cells[i]).yielding = true) :
    ((Column.yieldFor ranked col l).1.cells[i]).yielding = true := by
  fun_induction Column.yieldFor ranked col l with
  | case1 | case2 | case4 => exact h.resolve_left nofun
  | case3 col cand rest holder lowest above t ih =>
    refine ih ?_
    rw [Column.markYielding_cell]
    rcases h with named | marked
    · rcases List.mem_cons.mp named with e | named
      · rw [if_pos e]
        exact .inr rfl
      · exact .inl named
    · right
      split
      · rfl
      · exact marked

theorem Column.arbitrate_marked {col : Column} {ranked : List SlotId} {i : SlotId}
    (h : i ∈ (col.arbitrate ranked).marked) : ((col.arbitrate ranked).column.cells[i]).yielding = true := by
  rw [Column.arbitrate_column, Column.markWaiting_cell]
  exact Column.yieldFor_marks _ (.inl h)

theorem Column.arbitrate_newly_waiting {col : Column} {ranked : List SlotId} {i : SlotId}
    (h : i ∈ (col.arbitrate ranked).waiting) :
    ((col.arbitrate ranked).column.cells[i]).waiting = true ∧ (col.cells[i]).waiting = false := by
  obtain ⟨-, new⟩ := List.mem_filter.mp h
  rw [Bool.and_eq_true, Bool.not_eq_true'] at new
  rw [Column.arbitrate_column, Column.markWaiting_cell]
  exact new

/-- The ramp step leaves the marks of a cell and its lane alone. -/
theorem State.rampColumn_marks (s : State) (col : Column) (i : SlotId) :
    ((s.rampColumn col).cells[i]).yielding = (col.cells[i]).yielding
    ∧ ((s.rampColumn col).cells[i]).waiting = (col.cells[i]).waiting
    ∧ ((s.rampColumn col).cells[i]).target = (col.cells[i]).target := by
  cases hr : s.routeAt i with
  | none =>
    rw [State.rampColumn_cell_free hr]
    exact ⟨rfl, rfl, rfl⟩
  | some r =>
    rw [State.rampColumn_cell hr]
    exact ⟨rampCell_yielding .., rampCell_waiting .., rampCell_target ..⟩

theorem State.targetColumn_waiting (s : State) (sp : SpeakerId) (col : Column) (i : SlotId) :
    ((s.targetColumn sp col).cells[i]).waiting = (col.cells[i]).waiting := by
  rw [State.targetColumn_cell]
  rcases s.targetCell_cases sp i col.cells[i] with e | ⟨_, -, e⟩ | ⟨-, e⟩ <;> rw [e]

/-- A slot that raises CROWDED has a cell newly waiting or marked yielding at a present speaker (R120). -/
theorem State.crowded_cell {s : State} {sp : SpeakerId} {i : SlotId}
    (h : i ∈ (s.passArbitrated sp).marked ∨ i ∈ (s.passArbitrated sp).waiting) :
    (s.cabin.speakers[sp]).present = true
    ∧ (((s.passGrid[sp]).cells[i]).yielding = true
      ∨ ((s.passGrid[sp]).cells[i]).waiting = true ∧ ((s.grid[sp]).cells[i]).waiting = false) := by
  cases present : (s.cabin.speakers[sp]).present with
  | false =>
    have quiet : ¬(s.cabin.speakers[sp]).present = true := by rw [present]; nofun
    rw [State.passArbitrated, if_neg quiet] at h
    rcases h with h | h <;> cases h
  | true =>
    obtain ⟨yielding, waiting, -⟩ := s.rampColumn_marks (s.passArbitrated sp).column i
    rw [State.passGrid_get, yielding, waiting]
    rw [State.passArbitrated_present present] at h ⊢
    rcases h with marked | waits
    · exact ⟨rfl, .inl (Column.arbitrate_marked marked)⟩
    · obtain ⟨after, before⟩ := Column.arbitrate_newly_waiting waits
      rw [State.targetColumn_waiting] at before
      exact ⟨rfl, .inr ⟨after, before⟩⟩

/-- A speaker available to a route: present, ZONED in its zones, and NORMAL (R64). -/
theorem State.available_iff (s : State) (zs : ZoneSet) (sp : SpeakerId) :
    s.available zs sp = true ↔ ∃ z : Zone,
      (s.cabin.speakers[sp]).present = true ∧ (s.cabin.speakers[sp]).place = .zoned z
      ∧ zs.getLsbD z.val = true ∧ (s.prot.speakers[sp]).state = .normal := by
  rw [State.available]
  cases (s.cabin.speakers[sp]).place with
  | shared => simp
  | zoned own => simp [and_assoc]

/-- The spill flag of every slot after the decision (R65). -/
theorem State.spillAfter_law (s : State) (i : SlotId) :
    (s.routeAt i = none → s.spillAfter i = s.prec.spill[i])
    ∧ ∀ r, s.routeAt i = some r →
        (r.cls ≠ .alert ∨ r.state = .closing → s.spillAfter i = s.prec.spill[i])
        ∧ (r.cls = .alert → r.state ≠ .closing →
          (s.spillAfter i = true ↔ ¬∃ (sp : SpeakerId) (z : Zone),
            (s.cabin.speakers[sp]).present = true ∧ (s.cabin.speakers[sp]).place = .zoned z
            ∧ r.zones.getLsbD z.val = true ∧ (s.prot.speakers[sp]).state = .normal)) := by
  refine ⟨fun free => ?_, fun r hr => ⟨fun other => ?_, fun alert active => ?_⟩⟩ <;> rw [State.spillAfter]
  · rw [free]
  · rw [hr]
    refine if_neg fun ⟨alert, active⟩ => ?_
    rw [Route.active, decide_eq_true_iff] at active
    exact other.elim (fun h => h alert) active
  · rw [hr]
    have decided : (if r.cls = .alert ∧ r.active = true then !(List.finRange 24).any (s.available r.zones)
        else s.prec.spill[i]) = !(List.finRange 24).any (s.available r.zones) :=
      if_pos ⟨alert, decide_eq_true_iff.mpr active⟩
    dsimp only
    rw [decided, Bool.not_eq_true', ← Bool.not_eq_true, List.any_eq_true]
    simp only [List.mem_finRange, true_and, State.available_iff]

/-- Settles O37: the report is taken first; then the six stages' law says what changes and what is raised. -/
theorem passDecidesSpillAndKeepsTheRest : Obligations.PassDecidesSpillAndKeepsTheRest := by
  refine ⟨fun s t awake h => ?report, fun s awake taken => ?pass⟩
  case report =>
    obtain rfl : s.takeReport = t := Host.Outcome.next.inj ((guarded_taken awake).symm.trans h)
    obtain ⟨_, _, _, _, _, _, e, -⟩ := s.takeReport_frame
    have awake' : s.takeReport.pins.rstAsserted = false := by rw [e]; exact awake
    have taken : s.takeReport.table.report = none := by rw [e]
    rw [exec_pass_stages awake' taken]
    exact guarded_taken awake
  case pass =>
    obtain ⟨spilled, notices, free, e, -, raised, crowded, -⟩ := s.stages_law
    have flag (i : SlotId) : s.stages.prec.spill[i] = s.spillAfter i := by
      rw [s.stages_prec]
      exact ofFn_get _ i
    refine ⟨s.stages, spilled, exec_pass_stages awake taken, ?frame, ?raised, fun lane => ?crowded, fun i => ?spill⟩
    case frame =>
      have prec : s.spilled.prec = { s.prec with spill := s.spilled.prec.spill } := rfl
      rw [e]
      generalize s.spilled.prec = p at prec ⊢
      rw [prec]
    case raised =>
      simp only [flag]
      exact raised
    case crowded =>
      have stood : s.stages.link.notices = notices := by rw [e]
      rw [stood, s.stages_grid]
      refine (crowded lane).imp_right fun ⟨i, r, ⟨sp, h⟩, hr, owner, now⟩ => ?_
      obtain ⟨present, cell⟩ := State.crowded_cell h
      exact ⟨i, r, sp, hr, owner, present, cell, now⟩
    case spill =>
      rw [flag]
      exact s.spillAfter_law i

end Sys2Proof.Machine
end

section
/-! SUPPORT. The arbitration of one speaker in closed form: the rank order, which lane the grant step gives to
whom and who is left over, and whom the yield step marks (R113 to R118). -/
namespace Sys2Proof.Machine

/-! ### Positions in a list -/

theorem pairwise_idxOf_lt {l : List SlotId} (nodup : l.Nodup) : l.Pairwise fun a b => l.idxOf a < l.idxOf b := by
  refine List.pairwise_iff_getElem.mpr fun i j hi hj below => ?_
  rw [nodup.idxOf_getElem i hi, nodup.idxOf_getElem j hj]
  exact below

/-- In a list sorted by an asymmetric relation the positions are as the relation says. -/
theorem idxOf_lt_iff_of_pairwise {R : SlotId → SlotId → Prop} {l : List SlotId} (sorted : l.Pairwise R)
    (asymm : ∀ a b, R a b → ¬R b a) {a b : SlotId} (ha : a ∈ l) (hb : b ∈ l) :
    l.idxOf a < l.idxOf b ↔ R a b := by
  have ordered {x y : SlotId} (hx : x ∈ l) (hy : y ∈ l) (below : l.idxOf x < l.idxOf y) : R x y := by
    have related := List.pairwise_iff_getElem.mp sorted _ _ (List.idxOf_lt_length_of_mem hx)
      (List.idxOf_lt_length_of_mem hy) below
    rwa [List.getElem_idxOf, List.getElem_idxOf] at related
  refine ⟨ordered ha hb, fun related => ?_⟩
  rcases Nat.lt_trichotomy (l.idxOf a) (l.idxOf b) with below | same | above
  · exact below
  · have e : a = b := (List.idxOf_inj ha).mp same
    subst e
    exact absurd related (asymm a a related)
  · exact absurd (ordered hb ha above) (asymm a b related)

/-! ### Rank (R114) -/

/-- Slot i's route outranks slot j's: a higher class, or the same class and older (R114). -/
def State.outranks (s : State) (i j : SlotId) : Prop :=
  ∃ ri rj, s.routeAt i = some ri ∧ s.routeAt j = some rj
    ∧ (rj.cls.code < ri.cls.code ∨ ri.cls = rj.cls ∧ s.table.order.idxOf i < s.table.order.idxOf j)

theorem State.outranks_asymm {s : State} (i j : SlotId) (h : s.outranks i j) : ¬s.outranks j i := by
  rintro ⟨qj, qi, hqj, hqi, h'⟩
  obtain ⟨ri, rj, hri, hrj, h⟩ := h
  obtain rfl : ri = qi := Option.some.inj (hri.symm.trans hqi)
  obtain rfl : rj = qj := Option.some.inj (hrj.symm.trans hqj)
  rcases h with above | ⟨same, older⟩ <;> rcases h' with above' | ⟨same', older'⟩
  · omega
  · rw [same'] at above
    omega
  · rw [same] at above'
    omega
  · omega

theorem State.mem_ofClass {s : State} {i : SlotId} {cls : RouteClass} :
    i ∈ s.table.ofClass cls ↔ i ∈ s.table.order ∧ ∃ r, s.routeAt i = some r ∧ r.cls = cls := by
  rw [RouteTable.ofClass, List.mem_filter, State.routeAt]
  cases (s.table.slots[i]).route with
  | none => simp
  | some r => simp

theorem State.ofClass_pairwise {s : State} (nodup : s.table.order.Nodup) (cls : RouteClass) :
    (s.table.ofClass cls).Pairwise s.outranks := by
  refine ((pairwise_idxOf_lt nodup).sublist List.filter_sublist).imp_of_mem fun {i j} hi hj older => ?_
  obtain ⟨-, ri, hri, ci⟩ := State.mem_ofClass.mp hi
  obtain ⟨-, rj, hrj, cj⟩ := State.mem_ofClass.mp hj
  exact ⟨ri, rj, hri, hrj, .inr ⟨ci.trans cj.symm, older⟩⟩

theorem State.outranks_of_class {s : State} {i j : SlotId} {high low : RouteClass} (above : low.code < high.code)
    (hi : i ∈ s.table.ofClass high) (hj : j ∈ s.table.ofClass low) : s.outranks i j := by
  obtain ⟨-, ri, hri, ci⟩ := State.mem_ofClass.mp hi
  obtain ⟨-, rj, hrj, cj⟩ := State.mem_ofClass.mp hj
  exact ⟨ri, rj, hri, hrj, .inl (by rw [ci, cj]; exact above)⟩

/-- The routes in rank order are sorted by rank (R114). -/
theorem State.ranked_pairwise {s : State} (nodup : s.table.order.Nodup) : s.table.ranked.Pairwise s.outranks := by
  rw [RouteTable.ranked]
  simp only [List.pairwise_append, State.ofClass_pairwise nodup, true_and, List.mem_append]
  refine ⟨⟨⟨?_, ?_⟩, ?_⟩, ?_⟩
  · exact fun i hi j hj => State.outranks_of_class (by decide) hi hj
  · rintro i (hi | hi) j hj <;> exact State.outranks_of_class (by decide) hi hj
  · rintro i ((hi | hi) | hi) j hj <;> exact State.outranks_of_class (by decide) hi hj
  · rintro i (((hi | hi) | hi) | hi) j hj <;> exact State.outranks_of_class (by decide) hi hj

theorem State.ranked_nodup {s : State} (nodup : s.table.order.Nodup) : s.table.ranked.Nodup :=
  (State.ranked_pairwise nodup).imp fun {i j} above => by
    rintro rfl
    exact State.outranks_asymm i i above above

theorem State.mem_ranked {s : State} {i : SlotId} {r : Route} (listed : i ∈ s.table.order)
    (hr : s.routeAt i = some r) : i ∈ s.table.ranked := by
  have own : i ∈ s.table.ofClass r.cls := State.mem_ofClass.mpr ⟨listed, r, hr, rfl⟩
  rw [RouteTable.ranked]
  simp only [List.mem_append]
  cases cls : r.cls <;> rw [cls] at own
  · exact .inr own
  · exact .inl (.inr own)
  · exact .inl (.inl (.inr own))
  · exact .inl (.inl (.inl (.inr own)))
  · exact .inl (.inl (.inl (.inl own)))

/-! ### Grant (R117) -/

/-- The free lanes of a column, by number. -/
def Column.freeLanes (col : Column) : List MixId := (List.finRange 8).filter fun k => (col.lanes[k]).isNone

theorem Column.freeLanes_nodup (col : Column) : col.freeLanes.Nodup := (List.nodup_finRange 8).filter _

theorem Column.mem_freeLanes {col : Column} {k : MixId} : k ∈ col.freeLanes ↔ col.lanes[k] = none := by
  rw [Column.freeLanes, List.mem_filter, Option.isNone_iff_eq_none]
  exact and_iff_right (List.mem_finRange k)

theorem Column.freeLane_eq_head (col : Column) : col.freeLane = col.freeLanes.head? := by
  rw [Column.freeLane, Column.freeLanes, List.head?_filter]

theorem Column.give_lane (col : Column) (k k' : MixId) (i : SlotId) :
    (col.give k i).lanes[k'] = if k' = k then some i else col.lanes[k'] := upd_get ..

/-- The lane granted is free no longer, and every other one stays as it was. -/
theorem Column.give_freeLanes {col : Column} {k : MixId} {rest : List MixId} (free : col.freeLanes = k :: rest)
    (i : SlotId) : (col.give k i).freeLanes = rest := by
  have fewer : (col.give k i).freeLanes = col.freeLanes.filter fun k' => decide (k' ≠ k) := by
    rw [Column.freeLanes, Column.freeLanes, List.filter_filter]
    refine List.filter_congr fun k' _ => ?_
    rw [Column.give_lane]
    by_cases e : k' = k
    · simp [e]
    · simp [e]
  have fresh := col.freeLanes_nodup
  rw [free, List.nodup_cons] at fresh
  rw [fewer, free, List.filter_cons_of_neg (by simp), List.filter_eq_self]
  intro k' hk'
  exact decide_eq_true fun e => fresh.1 (e ▸ hk')

/-- A lane granted to one route leaves the candidacy of the others alone. -/
theorem Column.give_candidate {col : Column} {k : MixId} (free : col.lanes[k] = none) {i j : SlotId} (other : j ≠ i) :
    (col.give k i).candidate j = col.candidate j := by
  have holds : (col.give k i).holds j = col.holds j := by
    rw [Bool.eq_iff_iff, Column.give_holds free]
    exact or_iff_right other
  rw [Column.candidate, holds]
  rfl

/-- What the grant step does at its first route: that route goes first among the candidates, and the lowest
free lane is its. -/
theorem Column.grant_cons_law (col : Column) {i : SlotId} {rest : List SlotId} (new : i ∉ rest) :
    (∃ k frees, col.freeLanes = k :: frees ∧ col.lanes[k] = none
      ∧ (i :: rest).filter col.candidate = i :: rest.filter (col.give k i).candidate
      ∧ (col.give k i).freeLanes = frees ∧ (col.give k i).holds i = true
      ∧ col.grant (i :: rest) = (col.give k i).grant rest)
    ∨ col.candidate i = true ∧ col.freeLanes = [] ∧ col.grant (i :: rest) = col
    ∨ col.candidate i = false ∧ col.grant (i :: rest) = col.grant rest := by
  have head := col.freeLane_eq_head
  rcases col.grant_cons_cases i rest with ⟨k, candidate, hk, e⟩ | ⟨none_free, e⟩
  · left
    rw [hk] at head
    obtain ⟨frees, free⟩ := List.head?_eq_some_iff.mp head.symm
    have empty := Column.freeLane_isNone hk
    refine ⟨k, frees, free, empty, ?_, Column.give_freeLanes free i, (Column.give_holds empty i i).mpr (.inl rfl), e⟩
    rw [List.filter_cons_of_pos candidate]
    congr 1
    exact List.filter_congr fun j hj =>
      (Column.give_candidate empty fun same : j = i => new (same ▸ hj)).symm
  · right
    cases candidate : col.candidate i with
    | true =>
      have full := none_free candidate
      rw [full] at head
      exact .inl ⟨rfl, List.head?_eq_none_iff.mp head.symm, Column.grant_of_no_freeLane full _⟩
    | false => exact .inr ⟨rfl, e⟩

/-- The free lanes go, by number, to the candidates in rank order (R117). -/
theorem Column.grant_lane {l : List SlotId} (nodup : l.Nodup) (col : Column) (k : MixId) :
    (col.grant l).lanes[k] =
      if k ∈ col.freeLanes then (l.filter col.candidate)[col.freeLanes.idxOf k]? else col.lanes[k] := by
  induction l generalizing col with
  | nil =>
    rw [Column.grant]
    split
    · next free => exact Column.mem_freeLanes.mp free
    · rfl
  | cons i rest ih =>
    obtain ⟨new, nodup⟩ := List.nodup_cons.mp nodup
    rcases col.grant_cons_law new with
      ⟨k', frees, free, empty, candidates, frees', -, e⟩ | ⟨-, none_free, e⟩ | ⟨candidate, e⟩ <;> rw [e]
    · rw [ih nodup, frees', candidates, free, Column.give_lane]
      have fresh := col.freeLanes_nodup
      rw [free, List.nodup_cons] at fresh
      by_cases same : k = k'
      · subst same
        rw [if_neg fresh.1, if_pos rfl, if_pos List.mem_cons_self, List.idxOf_cons_self]
        rfl
      · rw [if_neg same, List.idxOf_cons_ne _ (Ne.symm same), List.getElem?_cons_succ]
        simp only [List.mem_cons, same, false_or]
    · rw [none_free, if_neg List.not_mem_nil]
    · rw [ih nodup, List.filter_cons_of_neg (by rw [candidate]; nofun)]

/-- The candidates left over are those after the first, one for each free lane (R117). -/
theorem Column.grant_leftover {l : List SlotId} (nodup : l.Nodup) (col : Column) :
    l.filter (col.grant l).candidate = (l.filter col.candidate).drop col.freeLanes.length := by
  induction l generalizing col with
  | nil => rw [List.filter_nil, List.filter_nil, List.drop_nil]
  | cons i rest ih =>
    obtain ⟨new, nodup⟩ := List.nodup_cons.mp nodup
    rcases col.grant_cons_law new with
      ⟨k', frees, free, empty, candidates, frees', held, e⟩ | ⟨-, none_free, e⟩ | ⟨candidate, e⟩ <;> rw [e]
    · have taken := Column.not_candidate_of_holds (Column.holds_grant held rest)
      rw [List.filter_cons_of_neg (by rw [taken]; nofun), ih nodup, candidates, free, frees', List.length_cons,
        List.drop_succ_cons]
    · rw [none_free, List.length_nil, List.drop_zero]
    · have passed : (col.grant rest).candidate i = false :=
        Bool.eq_false_iff.mpr fun left => by rw [Column.candidate_of_grant left] at candidate; cases candidate
      rw [List.filter_cons_of_neg (by rw [passed]; nofun), ih nodup,
        List.filter_cons_of_neg (by rw [candidate]; nofun)]

/-! ### Yield (R118) -/

/-- The holders not marked yielding, lowest rank first. -/
def Column.unmarkedHolders (col : Column) (ranked : List SlotId) : List SlotId :=
  (ranked.filter fun i => col.holds i && !(col.cells[i]).yielding).reverse

theorem Column.lowestUnmarked_eq_head (col : Column) (ranked : List SlotId) :
    col.lowestUnmarked ranked = (col.unmarkedHolders ranked).head? := by
  rw [Column.lowestUnmarked, Column.unmarkedHolders, List.head?_reverse]

/-- In rank order, lowest first, the positions fall. -/
theorem Column.unmarkedHolders_pairwise (col : Column) {ranked : List SlotId} (nodup : ranked.Nodup) :
    (col.unmarkedHolders ranked).Pairwise fun a b => ranked.idxOf b < ranked.idxOf a :=
  List.pairwise_reverse.mpr ((pairwise_idxOf_lt nodup).sublist List.filter_sublist)

theorem Column.markYielding_unmarkedHolders {col : Column} {ranked : List SlotId} (nodup : ranked.Nodup)
    {holder : SlotId} {rest : List SlotId} (lowest : col.unmarkedHolders ranked = holder :: rest) :
    (col.markYielding holder).unmarkedHolders ranked = rest := by
  have fewer : (col.markYielding holder).unmarkedHolders ranked =
      (col.unmarkedHolders ranked).filter fun i => decide (i ≠ holder) := by
    rw [Column.unmarkedHolders, Column.unmarkedHolders, List.filter_reverse, List.filter_filter]
    congr 1
    refine List.filter_congr fun i _ => ?_
    rw [Column.markYielding_cell, Column.holds_congr (col := col) (col' := col.markYielding holder) rfl]
    by_cases e : i = holder
    · simp [e]
    · simp [e]
  have fresh := col.unmarkedHolders_pairwise nodup
  rw [lowest, List.pairwise_cons] at fresh
  rw [fewer, lowest, List.filter_cons_of_neg (by simp), List.filter_eq_self]
  intro i hi
  refine decide_eq_true fun e => ?_
  subst e
  exact Nat.lt_irrefl _ (fresh.1 i hi)

/-- Holder i yields to the candidate at its place of the other list, which outranks it (R118). -/
def YieldsTo (ranked candidates holders : List SlotId) (i : SlotId) : Prop :=
  ∃ (n : Nat) (c : SlotId), candidates[n]? = some c ∧ holders[n]? = some i ∧ ranked.idxOf c < ranked.idxOf i

theorem YieldsTo.cons_iff {ranked : List SlotId} {cand holder : SlotId} {rest holders : List SlotId} {i : SlotId} :
    YieldsTo ranked (cand :: rest) (holder :: holders) i ↔
      (i = holder ∧ ranked.idxOf cand < ranked.idxOf holder) ∨ YieldsTo ranked rest holders i := by
  constructor
  · rintro ⟨n, c, hc, hi, above⟩
    cases n with
    | zero =>
      cases hc
      cases hi
      exact .inl ⟨rfl, above⟩
    | succ n => exact .inr ⟨n, c, hc, hi, above⟩
  · rintro (⟨rfl, above⟩ | ⟨n, c, hc, hi, above⟩)
    · exact ⟨0, cand, rfl, rfl, above⟩
    · exact ⟨n + 1, c, hc, hi, above⟩

/-- Where the first candidate does not outrank the lowest holder, no later one outranks a later holder. -/
theorem not_yieldsTo_of_first {ranked : List SlotId} {cand holder : SlotId} {rest holders : List SlotId}
    (rising : (cand :: rest).Pairwise fun a b => ranked.idxOf a < ranked.idxOf b)
    (falling : (holder :: holders).Pairwise fun a b => ranked.idxOf b < ranked.idxOf a)
    (below : ¬ranked.idxOf cand < ranked.idxOf holder) (i : SlotId) :
    ¬YieldsTo ranked (cand :: rest) (holder :: holders) i := by
  rw [YieldsTo.cons_iff]
  rintro (⟨-, above⟩ | ⟨n, c, hc, hi, above⟩)
  · exact below above
  · have later := (List.pairwise_cons.mp rising).1 c (List.mem_of_getElem? hc)
    have higher := (List.pairwise_cons.mp falling).1 i (List.mem_of_getElem? hi)
    omega

/-- The yield step names and marks exactly the holders that yield to an uncovered candidate (R118). -/
theorem Column.yieldFor_law {ranked : List SlotId} (nodup : ranked.Nodup) {l : List SlotId}
    (rising : l.Pairwise fun a b => ranked.idxOf a < ranked.idxOf b) (col : Column) (i : SlotId) :
    (i ∈ (Column.yieldFor ranked col l).2 ↔ YieldsTo ranked l (col.unmarkedHolders ranked) i)
    ∧ (((Column.yieldFor ranked col l).1.cells[i]).yielding = true ↔
      (col.cells[i]).yielding = true ∨ YieldsTo ranked l (col.unmarkedHolders ranked) i) := by
  induction l generalizing col with
  | nil =>
    have none_yields : ¬YieldsTo ranked [] (col.unmarkedHolders ranked) i := fun ⟨_, _, hc, _⟩ => by cases hc
    rw [Column.yieldFor]
    exact ⟨⟨nofun, fun h => absurd h none_yields⟩, ⟨.inl, fun h => h.resolve_right none_yields⟩⟩
  | cons cand rest ih =>
    have stays (stop : Column.yieldFor ranked col (cand :: rest) = (col, []))
        (none_yields : ¬YieldsTo ranked (cand :: rest) (col.unmarkedHolders ranked) i) :
        (i ∈ (Column.yieldFor ranked col (cand :: rest)).2 ↔
          YieldsTo ranked (cand :: rest) (col.unmarkedHolders ranked) i)
        ∧ (((Column.yieldFor ranked col (cand :: rest)).1.cells[i]).yielding = true ↔
          (col.cells[i]).yielding = true ∨ YieldsTo ranked (cand :: rest) (col.unmarkedHolders ranked) i) := by
      rw [stop]
      exact ⟨⟨nofun, fun h => absurd h none_yields⟩, ⟨.inl, fun h => h.resolve_right none_yields⟩⟩
    have head := col.lowestUnmarked_eq_head ranked
    cases holders : col.unmarkedHolders ranked with
    | nil =>
      rw [holders] at head stays
      exact stays (by rw [Column.yieldFor, head]; rfl) fun ⟨_, _, _, hi, _⟩ => by cases hi
    | cons holder more =>
      rw [holders] at head stays
      have falling := col.unmarkedHolders_pairwise nodup
      rw [holders] at falling
      by_cases above : ranked.idxOf cand < ranked.idxOf holder
      · have marks : Column.yieldFor ranked col (cand :: rest) =
            ((Column.yieldFor ranked (col.markYielding holder) rest).1,
              holder :: (Column.yieldFor ranked (col.markYielding holder) rest).2) := by
          rw [Column.yieldFor, head]
          exact if_pos above
        obtain ⟨named, marked⟩ := ih (List.pairwise_cons.mp rising).2 (col.markYielding holder)
        rw [Column.markYielding_unmarkedHolders nodup holders] at named marked
        rw [marks, YieldsTo.cons_iff]
        dsimp only
        rw [List.mem_cons, named, marked, Column.markYielding_cell]
        refine ⟨by simp only [above, and_true], ?_⟩
        by_cases e : i = holder
        · simp [e, above]
        · simp [e]
      · exact stays (by rw [Column.yieldFor, head]; exact if_neg above)
          (not_yieldsTo_of_first rising falling above i)

end Sys2Proof.Machine
end

section
/-! PROOF. The arbitration of a pass (R113 to R122): one speaker's arbitration in closed form over the column
as the targets leave it, and the obligation from it. -/
namespace Sys2Proof.Machine

/-! ### One speaker's arbitration in closed form -/

/-- The cell stays a holder marked yielding after the release step (R116, R118). -/
def Column.yieldsOn (col : Column) (i : SlotId) : Bool := (col.cells[i]).yielding && !(col.cells[i]).releases

/-- The candidates that no free lane and no holder still yielding covers (R118). -/
def Column.uncovered (col : Column) (ranked : List SlotId) : List SlotId :=
  ((ranked.filter col.release.candidate).drop col.release.freeLanes.length).drop (ranked.countP col.yieldsOn)

theorem Column.release_freeLanes (col : Column) :
    col.release.freeLanes =
      (List.finRange 8).filter fun k => (col.lanes[k]).all fun i => (col.cells[i]).releases := by
  rw [Column.freeLanes]
  refine List.filter_congr fun k _ => ?_
  rw [Bool.eq_iff_iff, Option.isNone_iff_eq_none, Option.eq_none_iff_forall_not_mem, Option.all_eq_true]
  refine forall_congr' fun i => ?_
  rw [Option.mem_def, Column.release_lane_eq_some, not_and, Bool.not_eq_false]

theorem Column.release_candidate (col : Column) (i : SlotId) :
    col.release.candidate i = ((col.cells[i]).needs && (!col.holds i || (col.cells[i]).releases)) := by
  have target := (Cell.gains_eq_iff.mp (col.release_gains i)).1
  rw [Column.candidate, Column.release_holds, Cell.needs, target, ← Cell.needs, Bool.not_and, Bool.not_not]

section
variable {col : Column} (marked_holds : ∀ i : SlotId, (col.cells[i]).yielding = true → col.holds i = true)
include marked_holds

theorem Column.release_yielding (i : SlotId) : (col.release.cells[i]).yielding = col.yieldsOn i := by
  rw [Column.release_cell, Column.yieldsOn]
  cases marked : (col.cells[i]).yielding with
  | false =>
    split
    · rfl
    · exact marked
  | true =>
    rw [marked_holds i marked, Bool.true_and, Bool.true_and]
    cases (col.cells[i]).releases with
    | true => rfl
    | false => exact marked

theorem Column.yieldsOn_holds {i : SlotId} (h : col.yieldsOn i = true) (ranked : List SlotId) :
    (col.release.grant ranked).holds i = true := by
  rw [Column.yieldsOn, Bool.and_eq_true] at h
  refine Column.holds_grant ?_ ranked
  rw [Column.release_holds, marked_holds i h.1, h.2]
  rfl

/-- The holders marked yielding before the yield step, and those not (R118). -/
theorem Column.granted_holders (ranked : List SlotId) :
    (col.release.grant ranked).yieldCount ranked = ranked.countP col.yieldsOn
    ∧ (col.release.grant ranked).unmarkedHolders ranked =
      (ranked.filter fun i => (col.arbitrate ranked).column.holds i && !col.yieldsOn i).reverse := by
  have marks (i : SlotId) : ((col.release.grant ranked).cells[i]).yielding = col.yieldsOn i := by
    rw [Column.grant_cells, Column.release_yielding marked_holds]
  constructor
  · refine List.countP_congr fun i _ => ?_
    rw [Column.yieldingHolder, marks, Bool.and_eq_true, and_iff_right_iff_imp]
    exact fun h => Column.yieldsOn_holds marked_holds h ranked
  · rw [Column.unmarkedHolders, Column.arbitrate_holds]
    simp only [marks]

/-- Arbitration names and marks exactly the holders that yield to an uncovered candidate, and keeps the mark
of a holder still yielding (R118). -/
theorem Column.arbitrate_yields {ranked : List SlotId} (nodup : ranked.Nodup) (i : SlotId) :
    (i ∈ (col.arbitrate ranked).marked ↔ YieldsTo ranked (col.uncovered ranked)
        (ranked.filter fun i => (col.arbitrate ranked).column.holds i && !col.yieldsOn i).reverse i)
    ∧ (((col.arbitrate ranked).column.cells[i]).yielding = true ↔
      col.yieldsOn i = true ∨ YieldsTo ranked (col.uncovered ranked)
        (ranked.filter fun i => (col.arbitrate ranked).column.holds i && !col.yieldsOn i).reverse i) := by
  obtain ⟨count, holders⟩ := Column.granted_holders marked_holds ranked
  have uncovered : (ranked.filter (col.release.grant ranked).candidate).drop
      ((col.release.grant ranked).yieldCount ranked) = col.uncovered ranked := by
    rw [count, Column.grant_leftover nodup, Column.uncovered]
  have rising : (col.uncovered ranked).Pairwise fun a b => ranked.idxOf a < ranked.idxOf b :=
    (pairwise_idxOf_lt nodup).sublist
      ((List.drop_sublist ..).trans ((List.drop_sublist ..).trans List.filter_sublist))
  obtain ⟨named, marked⟩ := Column.yieldFor_law nodup rising (col.release.grant ranked) i
  rw [holders] at named marked
  rw [Column.grant_cells, Column.release_yielding marked_holds] at marked
  rw [Column.arbitrate_column, Column.markWaiting_cell]
  rw [← uncovered] at named marked ⊢
  exact ⟨named, marked⟩

end

theorem Column.arbitrate_lane {ranked : List SlotId} (nodup : ranked.Nodup) (col : Column) (k : MixId) :
    (col.arbitrate ranked).column.lanes[k] =
      if k ∈ col.release.freeLanes then
        (ranked.filter col.release.candidate)[col.release.freeLanes.idxOf k]?
      else col.release.lanes[k] := by
  rw [← Column.grant_lane nodup, Column.arbitrate_column, Column.markWaiting, Column.yield_lanes]

/-- A cell waits exactly when the grant step left it over as a candidate (R119). -/
theorem Column.arbitrate_waiting_eq (col : Column) (ranked : List SlotId) (i : SlotId) :
    ((col.arbitrate ranked).column.cells[i]).waiting = (col.release.grant ranked).candidate i := by
  have target := (Cell.gains_eq_iff.mp ((col.release.grant ranked).yield_gains ranked i)).1
  have holds := Column.holds_congr ((col.release.grant ranked).yield_lanes ranked)
  rw [Column.arbitrate_column, Column.markWaiting_cell]
  show Column.candidate _ i = _
  rw [Column.candidate, Column.candidate, Cell.needs, Cell.needs, target, holds]

/-- While a ranked cell waits, every lane is held (R119). -/
theorem Column.arbitrate_full {col : Column} {ranked : List SlotId} (nodup : ranked.Nodup) {i : SlotId}
    (listed : i ∈ ranked) (waits : ((col.arbitrate ranked).column.cells[i]).waiting = true) (k : MixId) :
    (col.arbitrate ranked).column.lanes[k] ≠ none := by
  intro empty
  rw [Column.arbitrate_waiting_eq] at waits
  have left : i ∈ ranked.filter (col.release.grant ranked).candidate := List.mem_filter.mpr ⟨listed, waits⟩
  rw [Column.grant_leftover nodup] at left
  rw [Column.arbitrate_lane nodup] at empty
  split at empty
  · next free =>
    have place := List.idxOf_lt_length_of_mem free
    rw [List.getElem?_eq_none_iff] at empty
    rw [List.drop_eq_nil_of_le (by omega)] at left
    cases left
  · next held => exact held (Column.mem_freeLanes.mpr empty)

/-- A holder yields to a cell that waits and outranks it (R118). -/
theorem Column.waiting_of_yieldsTo {col : Column} {ranked : List SlotId} (nodup : ranked.Nodup)
    {holders : List SlotId} {i : SlotId} (h : YieldsTo ranked (col.uncovered ranked) holders i) :
    ∃ j : SlotId, ((col.arbitrate ranked).column.cells[j]).waiting = true ∧ ranked.idxOf j < ranked.idxOf i := by
  obtain ⟨n, c, hc, -, above⟩ := h
  have left := List.mem_of_mem_drop (List.mem_of_getElem? hc)
  rw [← Column.grant_leftover nodup] at left
  exact ⟨c, (Column.arbitrate_waiting_eq ..).trans (List.mem_filter.mp left).2, above⟩

/-- A holder that does not release its lane keeps that very lane (R116). -/
theorem Column.arbitrate_keeps_lane {col : Column} {ranked : List SlotId} (nodup : ranked.Nodup) {i : SlotId}
    {k : MixId} (stays : (col.cells[i]).releases = false) (held : col.lanes[k] = some i) :
    (col.arbitrate ranked).column.lanes[k] = some i := by
  have kept : col.release.lanes[k] = some i := Column.release_lane_eq_some.mpr ⟨held, stays⟩
  have taken : k ∉ col.release.freeLanes := fun free => by
    rw [Column.mem_freeLanes, kept] at free
    cases free
  rw [Column.arbitrate_lane nodup, if_neg taken, kept]

/-- A cell that needs no lane and had none after the release step holds none (R117). -/
theorem Column.arbitrate_unheld {col : Column} (ranked : List SlotId) {i : SlotId}
    (idle : ¬-480 < (col.cells[i]).target) (unheld : col.holds i = false ∨ (col.cells[i]).releases = true) :
    (col.arbitrate ranked).column.holds i = false := by
  rw [Column.arbitrate_holds]
  refine Column.grant_holds_of_silent ranked ?_ ?_
  · rw [(Cell.gains_eq_iff.mp (col.release_gains i)).1]
    omega
  · rw [Column.release_holds]
    rcases unheld with unheld | released
    · rw [unheld, Bool.false_and]
    · rw [released, Bool.not_true, Bool.and_false]

/-- The routes of a speaker whose cells come to wait (R120). -/
theorem Column.mem_arbitrate_waiting {col : Column} {ranked : List SlotId} {i : SlotId} (listed : i ∈ ranked)
    (waits : ((col.arbitrate ranked).column.cells[i]).waiting = true) (before : (col.cells[i]).waiting = false) :
    i ∈ (col.arbitrate ranked).waiting := by
  rw [Column.arbitrate_column, Column.markWaiting_cell] at waits
  refine List.mem_filter.mpr ⟨listed, ?_⟩
  rw [before, Bool.not_false, Bool.and_true]
  exact waits

/-! ### The obligation -/

/-- The column of a speaker whose targets the pass has formed. -/
def State.targeted (s : State) (sp : SpeakerId) : Column := s.spilled.targetColumn sp s.grid[sp]

theorem State.targeted_cell (s : State) (sp : SpeakerId) (i : SlotId) :
    (((s.targeted sp).cells[i]).applied = s.rampStart sp i)
    ∧ ((s.targeted sp).cells[i]).target = ((s.stages.grid[sp]).cells[i]).target
    ∧ ((s.targeted sp).cells[i]).yielding = ((s.grid[sp]).cells[i]).yielding
    ∧ ((s.targeted sp).cells[i]).waiting = ((s.grid[sp]).cells[i]).waiting := by
  obtain ⟨-, -, target⟩ := s.rampColumn_marks (s.passArbitrated sp).column i
  refine ⟨s.targeted_applied sp i, ?_, State.targetColumn_yielding .., State.targetColumn_waiting ..⟩
  rw [s.stages_grid, State.passGrid_get, target, (Cell.gains_eq_iff.mp (s.passArbitrated_gains sp i)).1, State.targeted]

/-- What arbitration has left stands after the pass, whose later stages move gains alone. -/
theorem State.stages_column (s : State) (sp : SpeakerId) :
    (s.stages.grid[sp]).lanes = (s.passArbitrated sp).column.lanes
    ∧ (s.stages.grid[sp]).holds = (s.passArbitrated sp).column.holds
    ∧ ∀ i : SlotId,
      ((s.stages.grid[sp]).cells[i]).yielding = ((s.passArbitrated sp).column.cells[i]).yielding
      ∧ ((s.stages.grid[sp]).cells[i]).waiting = ((s.passArbitrated sp).column.cells[i]).waiting := by
  rw [s.stages_grid, State.passGrid_get]
  refine ⟨by rw [State.rampColumn], State.rampColumn_holds .., fun i => ?_⟩
  obtain ⟨yielding, waiting, -⟩ := s.rampColumn_marks (s.passArbitrated sp).column i
  exact ⟨yielding, waiting⟩

/-- The rank of two routes is their place among the ranked ones (R114). -/
theorem State.rank_iff {s : State} {i j : SlotId} {ri rj : Route} (table : TableInv s)
    (hi : s.routeAt i = some ri) (hj : s.routeAt j = some rj) :
    s.table.ranked.idxOf i < s.table.ranked.idxOf j ↔
      rj.cls.code < ri.cls.code
      ∨ ri.cls = rj.cls ∧ s.table.order.idxOf i < s.table.order.idxOf j := by
  obtain ⟨nodup, listed, -⟩ := table
  have hi' := State.mem_ranked ((listed i).mpr (by rw [hi]; rfl)) hi
  have hj' := State.mem_ranked ((listed j).mpr (by rw [hj]; rfl)) hj
  rw [idxOf_lt_iff_of_pairwise (State.ranked_pairwise nodup) State.outranks_asymm hi' hj']
  constructor
  · rintro ⟨qi, qj, hqi, hqj, above⟩
    cases hi.symm.trans hqi
    cases hj.symm.trans hqj
    exact above
  · exact fun above => ⟨ri, rj, hi, hj, above⟩

/-- Settles O40: at a present speaker the pass leaves what the closed form says. -/
theorem passSettlesTheMixLanes : Obligations.PassSettlesTheMixLanes := by
  refine ⟨fun s i j ri rj table hi hj => State.rank_iff table hi hj, fun s t sp awake taken table grid h => ?_⟩
  obtain rfl : s.stages = t := stages_of_pass awake taken h
  obtain ⟨order, listed, -⟩ := id table
  obtain ⟨columns, free_silent, -⟩ := (gridInv_iff s).mp grid
  have nodup := State.ranked_nodup order
  obtain ⟨lanes, holds, marks⟩ := s.stages_column sp
  have cell := s.targeted_cell sp
  have holds₀ : (s.targeted sp).holds = (s.grid[sp]).holds := State.targetColumn_holds ..
  have lanes₀ : (s.targeted sp).lanes = (s.grid[sp]).lanes := by rw [State.targeted, State.targetColumn]
  obtain ⟨-, ns, free, e, -, -, -, crowded⟩ := s.stages_law
  have notices : s.stages.link.notices = ns := by rw [e]
  have arbitrated (present : (s.cabin.speakers[sp]).present = true) :
      s.passArbitrated sp = (s.targeted sp).arbitrate s.table.ranked := State.passArbitrated_present present
  have absent (absent : (s.cabin.speakers[sp]).present = false) :
      (s.passArbitrated sp).column = s.targeted sp := State.passArbitrated_absent absent
  have sound (i : SlotId) : (s.passArbitrated sp).column.cellSound i :=
    State.passArbitrated_cellSound ((columns sp).1 i)
  have free_target (i : SlotId) (hr : s.routeAt i = none) : ((s.targeted sp).cells[i]).target = -480 := by
    have quiet : ∀ r, s.spilled.routeAt i = some r → s.spilled.targetOf i r sp = -480 := fun r hr' => by
      rw [State.spilled_routeAt, hr] at hr'
      cases hr'
    obtain ⟨silent, -⟩ := State.targetColumn_silentAt quiet (free_silent i hr sp)
    rw [State.targeted, silent]
    rfl
  generalize s.targeted sp = col at *
  generalize s.stages.grid[sp] = final at *
  rw [notices]
  intro before after a needs released freeLanes candidates yieldsOn uncovered lowestFirst
  have needs_iff (i : SlotId) : needs i ↔ -480 < (col.cells[i]).target := by rw [(cell i).2.1]
  have releases : released = fun i => (col.cells[i]).releases := by
    funext i
    obtain ⟨applied, target, yielding, -⟩ := cell i
    rw [Cell.releases, applied, target, yielding]
    rfl
  have yields : yieldsOn = col.yieldsOn := by
    funext i
    show ((before.cells[i]).yielding && !released i) = _
    rw [releases, Column.yieldsOn, (cell i).2.2.1]
  have frees : freeLanes = col.release.freeLanes := by
    show ((List.finRange 8).filter fun k => (before.lanes[k]).all released) = _
    rw [releases, Column.release_freeLanes, lanes₀]
  have ranked : candidates = s.table.ranked.filter col.release.candidate := by
    refine List.filter_congr fun i _ => ?_
    rw [Column.release_candidate, Cell.needs, (cell i).2.1, holds₀, releases]
  have marked_holds (i : SlotId) : (col.cells[i]).yielding = true → col.holds i = true := by
    obtain ⟨-, -, -, -, -, marked, -⟩ := (columns sp).1 i
    rw [(cell i).2.2.1, holds₀]
    exact marked
  have left : uncovered = col.uncovered s.table.ranked := by
    show (candidates.drop freeLanes.length).drop (s.table.ranked.countP yieldsOn) = _
    rw [ranked, frees, yields, Column.uncovered]
  refine ⟨fun away => ?absent, fun present => ?arbitrated, fun present i => ?cell⟩
  case absent =>
    show final.lanes = (s.grid[sp]).lanes
    rw [lanes, absent away, lanes₀]
  all_goals rw [arbitrated present] at lanes holds marks sound
  all_goals have marked := Column.arbitrate_yields marked_holds nodup
  all_goals
    have lowest : lowestFirst = (s.table.ranked.filter fun i =>
        (col.arbitrate s.table.ranked).column.holds i && !col.yieldsOn i).reverse := by
      show (s.table.ranked.filter fun i => final.holds i && !yieldsOn i).reverse = _
      rw [holds, yields]
  case arbitrated =>
    refine ⟨fun k hk => ?_, fun i => ?_⟩
    · rw [frees] at hk
      show final.lanes[k] = _
      rw [lanes, Column.arbitrate_lane nodup, if_pos hk, ranked, frees]
    · show (final.cells[i]).yielding = true ↔ _
      rw [(marks i).1, (marked i).2, left, lowest, yields]
      rfl
  case cell =>
    obtain ⟨applied, -, yielding, waiting⟩ := cell i
    obtain ⟨target_lo, -, -, -, -, marked_held, -⟩ := sound i
    have releases_iff : (col.cells[i]).releases = true ↔
        a i = -480 ∧ ((col.cells[i]).target = -480 ∨ (before.cells[i]).yielding = true) := by
      rw [Cell.releases, applied, yielding, Bool.and_eq_true, Bool.or_eq_true, decide_eq_true_iff, decide_eq_true_iff]
      rfl
    have in_rank (h : -480 < (col.cells[i]).target) : i ∈ s.table.ranked := by
      cases hr : s.routeAt i with
      | some r => exact State.mem_ranked ((listed i).mpr (by rw [hr]; rfl)) hr
      | none =>
        rw [free_target i hr] at h
        exact absurd h (by decide)
    have fresh (was : (before.cells[i]).yielding = false) : ¬col.yieldsOn i = true := by
      rw [Column.yieldsOn, yielding, was]
      nofun
    have waits := col.arbitrate_waiting s.table.ranked i
    have named := crowded sp i
    have same : after = final := rfl
    rw [arbitrated present] at named
    rw [← needs_iff] at waits
    rw [same, lanes, holds, (marks i).1, (marks i).2]
    refine ⟨fun k hk stays => ?keeps, fun quiet idle => ?silent, fun unheld held => ?granted, waits,
      fun waits' => ?full, fun now was => ?yields, fun r hr new => ?crowded⟩
    case keeps =>
      refine Column.arbitrate_keeps_lane nodup (Bool.eq_false_iff.mpr fun released => stays ?_) (lanes₀ ▸ hk)
      obtain ⟨quiet, idle⟩ := releases_iff.mp released
      rw [needs_iff]
      exact ⟨quiet, idle.imp_left fun e => by rw [e]; decide⟩
    case silent =>
      rw [needs_iff] at idle
      have floor := (Cell.gains_eq_iff.mp (col.arbitrate_gains s.table.ranked i)).1 ▸ target_lo
      have unheld := Column.arbitrate_unheld s.table.ranked idle
        (.inr (releases_iff.mpr ⟨quiet, .inl (le_antisymm (not_lt.mp idle) floor)⟩))
      refine ⟨unheld, Bool.eq_false_iff.mpr fun now => ?_⟩
      rw [marked_held now] at unheld
      cases unheld
    case granted =>
      by_contra idle
      rw [needs_iff] at idle
      rw [Column.arbitrate_unheld _ idle (.inl (holds₀ ▸ unheld))] at held
      cases held
    case full => exact Column.arbitrate_full nodup (in_rank ((needs_iff i).mp (waits.mp waits').1)) waits'
    case yields =>
      refine ⟨marked_held now, ?_⟩
      obtain ⟨j, waits, above⟩ := Column.waiting_of_yieldsTo nodup (((marked i).2.mp now).resolve_left (fresh was))
      exact ⟨j, (marks j).2.trans waits, above⟩
    case crowded =>
      refine named r ?_ hr
      rcases new with ⟨waits', was⟩ | ⟨now, was⟩
      · exact .inr (Column.mem_arbitrate_waiting (in_rank ((needs_iff i).mp (waits.mp waits').1)) waits'
          (waiting.trans was))
      · exact .inl ((marked i).1.mpr (((marked i).2.mp now).resolve_left (fresh was)))

end Sys2Proof.Machine
end

section
/-! PROOF. The settings' requests: LOAD_SPEAKER, SET_ZONE, SET_MASTER, SET_QUOTA, LOAD_TONE, LOAD_VOICING, SPEED
and SET_STALE. Each owner's outcomes are said once, and an admitted request is its owner's outcome. -/
namespace Sys2Proof.Machine

/-! ### What an admitted request comes to -/

theorem exec_plain {c : Instr} {s u v : State} {k : Kind} {w : Window} {fs : List Field} {owner : Owner}
    {r : Result} (request : exec c s = .next (s.request k w owner)) (ha : Admits s k w fs u)
    (outcome : owner w.lane fs u = (v, .plain r)) :
    exec c s = .next { v with link := v.replied k w (dataless r) } := by
  rw [request, State.request_admitted ha, outcome, State.answer_eq, Answer.payload_plain, State.replied]

theorem exec_taken {c : Instr} {s u v : State} {k : Kind} {w : Window} {fs : List Field} {owner : Owner}
    {adjusted : Bool} {p : Prop} [Decidable p] (request : exec c s = .next (s.request k w owner))
    (ha : Admits s k w fs u) (outcome : owner w.lane fs u = (v, .taken adjusted)) (clamped : adjusted = true ↔ p) :
    exec c s = .next { v with link := v.replied k w (dataless (doneOr p)) } := by
  rw [request, State.request_admitted ha, outcome, State.answer_eq, Answer.payload_taken clamped, State.replied]

/-- A code that is missing or too large names nothing. -/
theorem finField_eq_none {n : Nat} {o : Option Nat} (h : o = none ∨ ∃ m, o = some m ∧ n ≤ m) :
    o.bind (finOf n) = none := by
  rcases h with absent | ⟨m, hm, above⟩
  · rw [absent, Option.bind_none]
  · rw [hm, Option.bind_some]
    exact finOf_eq_none.mpr above

/-! ### LOAD_SPEAKER (R4, R5) -/

theorem exec_loadSpeaker (w : Window) (s : State) :
    exec (.loadSpeaker w) s = .next (s.request .loadSpeaker w takeLoadSpeaker) := rfl

theorem takeLoadSpeaker_mode {u : State} (h : u.ctl.mode ≠ .setup) (lane : LaneId) (fs : List Field) :
    takeLoadSpeaker lane fs u = (u, .plain .mode) := if_pos h

theorem takeLoadSpeaker_badarg {u : State} {fs : List Field} (setup : u.ctl.mode = .setup)
    (h : (natField fs 0x20#8).bind (finOf 24) = none ∨ speakerEntryField fs = none) (lane : LaneId) :
    takeLoadSpeaker lane fs u = (u, .plain .badarg) := by
  rw [takeLoadSpeaker, if_neg (not_not.mpr setup)]
  rcases h with h | h <;> rw [h]
  cases (natField fs 0x20#8).bind (finOf 24) <;> rfl

theorem takeLoadSpeaker_entry {u : State} {fs : List Field} {sp : SpeakerId} {e : SpeakerEntry} {adjusted : Bool}
    (setup : u.ctl.mode = .setup) (speaker : natField fs 0x20#8 = some sp.val)
    (entry : speakerEntryField fs = some (e, adjusted)) (lane : LaneId) :
    takeLoadSpeaker lane fs u = (u.loadSpeaker sp e, .taken adjusted) := by
  rw [takeLoadSpeaker, if_neg (not_not.mpr setup), speaker, Option.bind_some, finOf_val, entry]

theorem speakerEntryField_of_bytes {fs : List Field} {present place side row trim protMode thr dgl : Byte}
    {pr : Bool} {pl : Place} {sd : Side} {rw : Row} {pm : ProtMode}
    (bytes : fieldValue fs 0x21#8 = some [present, place, side, row, trim, protMode, thr, dgl])
    (hpr : boolOfCode present.toNat = some pr) (hpl : Place.ofCode place.toNat = some pl)
    (hsd : Side.ofCode side.toNat = some sd) (hrw : Row.ofCode row.toNat = some rw)
    (hpm : ProtMode.ofCode protMode.toNat = some pm) :
    speakerEntryField fs =
      some
        ({ present := pr, place := pl, side := sd, row := rw, protMode := pm
           trim := max (-96) (min trim.toInt 0), threshold := min thr.toNat 96
           deglitch := max 1 (min dgl.toNat 64) },
          decide (trim.toInt < -96 ∨ 0 < trim.toInt ∨ 96 < thr.toNat ∨ dgl.toNat < 1 ∨ 64 < dgl.toNat)) := by
  have changed : (max (-96) (min trim.toInt 0) ≠ trim.toInt ∨ min thr.toNat 96 ≠ thr.toNat
      ∨ max 1 (min dgl.toNat 64) ≠ dgl.toNat) ↔
      (trim.toInt < -96 ∨ 0 < trim.toInt ∨ 96 < thr.toNat ∨ dgl.toNat < 1 ∨ 64 < dgl.toNat) := by omega
  simp only [speakerEntryField, bytes, hpr, hpl, hsd, hrw, hpm, Option.bind_eq_bind, Option.bind_some,
    clampNat_zero, clampTo_eq (show (-96 : Int) ≤ 0 by decide), clampNat_eq (show 1 ≤ 64 by decide), changed]

/-- Settles O19, by the mode and by what the entry's bytes spell. -/
theorem loadSpeakerReplacesTheEntry : Obligations.LoadSpeakerReplacesTheEntry := by
  refine ⟨headLaneOnly_of_headOnly rfl exec_loadSpeaker, fun s w fs u ha => ⟨fun mode => ?_, fun setup h => ?_, ?_⟩⟩
  · exact exec_plain (exec_loadSpeaker w s) ha (takeLoadSpeaker_mode mode ..)
  · exact exec_plain (exec_loadSpeaker w s) ha (takeLoadSpeaker_badarg setup h _)
  · intro sp present place side row trim protMode thr dgl pr pl sd rw pm setup speaker bytes hpr hpl hsd hrw hpm
    have entry := speakerEntryField_of_bytes bytes hpr hpl hsd hrw hpm
    refine ⟨_, exec_taken (exec_loadSpeaker w s) ha (takeLoadSpeaker_entry setup speaker entry _) decide_eq_true_iff,
      rfl, upd_self .., upd_self .., fun other hne => ⟨upd_ne _ _ _ _ hne, upd_ne _ _ _ _ hne⟩⟩

/-! ### SET_ZONE and SET_MASTER (R8, R9) -/

theorem exec_setZone (w : Window) (s : State) : exec (.setZone w) s = .next (s.request .setZone w takeSetZone) := rfl

theorem exec_setMaster (w : Window) (s : State) :
    exec (.setMaster w) s = .next (s.request .setMaster w takeSetMaster) := rfl

/-- An optional coded field that reads as absent is absent. -/
theorem codeField_isSome {α : Type} {fs : List Field} {tag : Byte} {read : Nat → Option α} {o : Option α}
    (h : codeField fs tag read = some o) : (fieldValue fs tag).isSome = o.isSome := by
  rw [codeField, natField] at h
  cases value : fieldValue fs tag with
  | none =>
    rw [value] at h
    cases h
    rfl
  | some bs =>
    rw [value, Option.map_some] at h
    obtain ⟨a, -, rfl⟩ := Option.map_eq_some_iff.mp h
    rfl

theorem ZoneSetting.write_eq (z : ZoneSetting) (level : Option Int) (mute : Option Bool) (bass treble : Option Int)
    (curve : Option (Option (Fin 4))) :
    z.write level mute bass treble curve =
      { level := (level.map fun x => max (-480) (min x 0)).getD z.level
        mute := mute.getD z.mute
        bass := (bass.map fun x => max (-12) (min x 12)).getD z.bass
        treble := (treble.map fun x => max (-12) (min x 12)).getD z.treble
        curve := curve.getD z.curve } := by
  rw [ZoneSetting.mk.injEq]
  refine ⟨?_, rfl, ?_, ?_, rfl⟩
  · cases level with
    | none => rfl
    | some x => exact clampTo_eq (by decide) x
  · cases bass with
    | none => rfl
    | some x => exact clampTo_eq (by decide) x
  · cases treble with
    | none => rfl
    | some x => exact clampTo_eq (by decide) x

theorem takeSetZone_badarg {fs : List Field}
    (h : (natField fs 0x22#8).bind (finOf 4) = none ∨ codeField fs 0x23#8 boolOfCode = none
      ∨ codeField fs 0x26#8 curveOfCode = none
      ∨ fieldValue fs 0x06#8 = none ∧ fieldValue fs 0x23#8 = none ∧ fieldValue fs 0x24#8 = none
        ∧ fieldValue fs 0x25#8 = none ∧ fieldValue fs 0x26#8 = none)
    (lane : LaneId) (u : State) : takeSetZone lane fs u = (u, .plain .badarg) := by
  unfold takeSetZone
  split
  · next zone mute curve =>
    rcases h with h | h | h | ⟨level, mute, bass, treble, curve⟩
    · exact absurd (h.symm.trans zone) nofun
    · exact absurd (h.symm.trans mute) nofun
    · exact absurd (h.symm.trans curve) nofun
    · refine if_neg ?_
      simp only [hasField, level, mute, bass, treble, curve, Option.isSome_none, Bool.or_self, Bool.false_eq_true,
        not_false_eq_true]
  · rfl

theorem takeSetZone_written {fs : List Field} {z : Zone} {mute : Option Bool} {curve : Option (Option (Fin 4))}
    (zone : natField fs 0x22#8 = some z.val) (hmute : codeField fs 0x23#8 boolOfCode = some mute)
    (hcurve : codeField fs 0x26#8 curveOfCode = some curve)
    (carried : (fieldValue fs 0x06#8).isSome = true ∨ mute.isSome = true ∨ (fieldValue fs 0x24#8).isSome = true
      ∨ (fieldValue fs 0x25#8).isSome = true ∨ curve.isSome = true) (lane : LaneId) (u : State) :
    takeSetZone lane fs u =
      ({ u with cabin := { u.cabin with
          zones := upd u.cabin.zones z fun old =>
            old.write (intField fs 0x06#8) mute (intField fs 0x24#8) (intField fs 0x25#8) curve } },
        .taken (clampChanges (-480) 0 (intField fs 0x06#8) || clampChanges (-12) 12 (intField fs 0x24#8)
          || clampChanges (-12) 12 (intField fs 0x25#8))) := by
  simp only [takeSetZone, zone, hmute, hcurve, Option.bind_some, finOf_val]
  refine if_pos ?_
  simp only [hasField, codeField_isSome hmute, codeField_isSome hcurve, Bool.or_eq_true, or_assoc]
  exact carried

theorem takeSetMaster_badarg {fs : List Field}
    (h : codeField fs 0x23#8 boolOfCode = none ∨ codeField fs 0x27#8 (finOf 4) = none
      ∨ fieldValue fs 0x06#8 = none ∧ fieldValue fs 0x23#8 = none ∧ fieldValue fs 0x27#8 = none)
    (lane : LaneId) (u : State) : takeSetMaster lane fs u = (u, .plain .badarg) := by
  unfold takeSetMaster
  split
  · next mute zone =>
    rcases h with h | h | ⟨level, mute, zone⟩
    · exact absurd (h.symm.trans mute) nofun
    · exact absurd (h.symm.trans zone) nofun
    · refine if_neg ?_
      simp only [hasField, level, mute, zone, Option.isSome_none, Bool.or_self, Bool.false_eq_true, not_false_eq_true]
  · rfl

theorem takeSetMaster_written {fs : List Field} {mute : Option Bool} {zone : Option Zone}
    (hmute : codeField fs 0x23#8 boolOfCode = some mute) (hzone : codeField fs 0x27#8 (finOf 4) = some zone)
    (carried : (fieldValue fs 0x06#8).isSome = true ∨ mute.isSome = true ∨ zone.isSome = true)
    (lane : LaneId) (u : State) :
    takeSetMaster lane fs u =
      ({ u with cabin := { u.cabin with
          masterLevel := ((intField fs 0x06#8).map fun x => max (-480) (min x 0)).getD u.cabin.masterLevel
          masterMute := mute.getD u.cabin.masterMute
          toneZone := zone.getD u.cabin.toneZone } },
        .taken (clampChanges (-480) 0 (intField fs 0x06#8))) := by
  have carries : (hasField fs 0x06#8 || hasField fs 0x23#8 || hasField fs 0x27#8) = true := by
    simp only [hasField, codeField_isSome hmute, codeField_isSome hzone, Bool.or_eq_true, or_assoc]
    exact carried
  simp only [takeSetMaster, hmute, hzone]
  rw [if_pos carries]
  cases intField fs 0x06#8 with
  | none => rfl
  | some x => rw [Option.map_some, Option.getD_some, ← clampTo_eq (by decide)]

/-- Settles O20, from what each of the two owners writes of the fields carried. -/
theorem zoneAndMasterSettingsAreWritten : Obligations.ZoneAndMasterSettingsAreWritten := by
  refine ⟨headLaneOnly_of_headOnly rfl exec_setZone, headLaneOnly_of_headOnly rfl exec_setMaster,
    fun s w fs u ha => ⟨fun h => ?_, fun z mute curve zone hmute hcurve carried => ?_⟩,
    fun s w fs u ha => ⟨fun h => ?_, fun mute zone hmute hzone carried => ?_⟩⟩
  · exact exec_plain (exec_setZone w s) ha (takeSetZone_badarg h ..)
  · refine ⟨_, _, _, exec_taken (exec_setZone w s) ha (takeSetZone_written zone hmute hcurve carried ..)
      (p := (clampChanges (-480) 0 (intField fs 0x06#8) || clampChanges (-12) 12 (intField fs 0x24#8)
        || clampChanges (-12) 12 (intField fs 0x25#8)) = true) Iff.rfl, rfl, ?_,
      fun other hne => upd_ne _ _ _ _ hne, doneOr_cases _, ?_⟩
    · rw [upd_get, if_pos rfl, ZoneSetting.write_eq]
    · rw [doneOr_eq_adjusted_iff, Bool.or_eq_true, Bool.or_eq_true, clampChanges_iff (by decide),
        clampChanges_iff (by decide), clampChanges_iff (by decide), or_assoc]
  · exact exec_plain (exec_setMaster w s) ha (takeSetMaster_badarg h ..)
  · refine ⟨_, exec_taken (exec_setMaster w s) ha (takeSetMaster_written hmute hzone carried ..)
      (p := clampChanges (-480) 0 (intField fs 0x06#8) = true) Iff.rfl, doneOr_cases _, ?_⟩
    rw [doneOr_eq_adjusted_iff, clampChanges_iff (by decide)]

end Sys2Proof.Machine
end

section
/-! PROOF. SET_QUOTA, LOAD_TONE and LOAD_VOICING, and SPEED and SET_STALE: each owner's outcomes said once, and
an admitted request is its owner's outcome. -/
namespace Sys2Proof.Machine

theorem exec_setQuota (w : Window) (s : State) :
    exec (.setQuota w) s = .next (s.request .setQuota w takeSetQuota) := rfl

theorem exec_loadTone (w : Window) (s : State) :
    exec (.loadTone w) s = .next (s.request .loadTone w takeLoadTone) := rfl

theorem exec_loadVoicing (w : Window) (s : State) :
    exec (.loadVoicing w) s = .next (s.request .loadVoicing w takeLoadVoicing) := rfl

/-! ### SET_QUOTA (R25) -/

section
variable {u : State} {fs : List Field} (lane : LaneId)

theorem takeSetQuota_mode (h : u.ctl.mode ≠ .setup) (fs : List Field) :
    takeSetQuota lane fs u = (u, .plain .mode) := if_pos h

theorem takeSetQuota_badarg (setup : u.ctl.mode = .setup)
    (h : (natField fs 0x14#8).bind (finOf 4) = none ∨ natField fs 0x15#8 = none) :
    takeSetQuota lane fs u = (u, .plain .badarg) := by
  rw [takeSetQuota, if_neg (not_not.mpr setup)]
  rcases h with h | h <;> rw [h]
  cases (natField fs 0x14#8).bind (finOf 4) <;> rfl

theorem takeSetQuota_written {owner : LaneId} {q : Nat} (setup : u.ctl.mode = .setup)
    (howner : natField fs 0x14#8 = some owner.val) (hq : natField fs 0x15#8 = some q) :
    takeSetQuota lane fs u =
      ({ u with table := { u.table with quotas := upd u.table.quotas owner fun _ => min q 32 } },
        .taken (decide (32 < q))) := by
  have changed : min q 32 ≠ q ↔ 32 < q := by omega
  rw [takeSetQuota, if_neg (not_not.mpr setup)]
  simp only [howner, hq, Option.bind_some, finOf_val, clampNat_zero, changed]

/-! ### LOAD_TONE (R138) -/

theorem takeLoadTone_mode (h : u.ctl.mode ≠ .setup) (fs : List Field) :
    takeLoadTone lane fs u = (u, .plain .mode) := if_pos h

theorem toneEntry_eq_some {i : Int} {n : Fin 25} : toneEntry i = some n ↔ (n.val : Int) = i + 12 := by
  unfold toneEntry
  split
  · rw [finOf_eq_some]
    omega
  · refine ⟨nofun, fun e => ?_⟩
    omega

theorem toneEntry_eq_none {i : Int} (h : i < -12 ∨ 12 < i) : toneEntry i = none := if_neg (by omega)

theorem takeLoadTone_badarg (setup : u.ctl.mode = .setup)
    (h : (∀ n, natField fs 0x35#8 = some n → 1 < n) ∨ (intField fs 0x36#8).bind toneEntry = none
      ∨ fieldValue fs 0x37#8 = none) : takeLoadTone lane fs u = (u, .plain .badarg) := by
  rw [takeLoadTone, if_neg (not_not.mpr setup)]
  split
  · next shelf index value =>
    rcases h with h | h | h
    · exact absurd (h 0 shelf) (by decide)
    · exact absurd (h.symm.trans index) nofun
    · exact absurd (h.symm.trans value) nofun
  · next shelf index value =>
    rcases h with h | h | h
    · exact absurd (h 1 shelf) (by decide)
    · exact absurd (h.symm.trans index) nofun
    · exact absurd (h.symm.trans value) nofun
  · rfl

theorem takeLoadTone_low {i : Fin 25} {bs : List Byte} (setup : u.ctl.mode = .setup)
    (shelf : natField fs 0x35#8 = some 0) (index : (intField fs 0x36#8).bind toneEntry = some i)
    (value : fieldValue fs 0x37#8 = some bs) :
    takeLoadTone lane fs u =
      ({ u with eq := { u.eq with toneLow := upd u.eq.toneLow i fun _ => coeffsOf bs } }, .plain .done) := by
  rw [takeLoadTone, if_neg (not_not.mpr setup)]
  simp only [shelf, index, value]

theorem takeLoadTone_high {i : Fin 25} {bs : List Byte} (setup : u.ctl.mode = .setup)
    (shelf : natField fs 0x35#8 = some 1) (index : (intField fs 0x36#8).bind toneEntry = some i)
    (value : fieldValue fs 0x37#8 = some bs) :
    takeLoadTone lane fs u =
      ({ u with eq := { u.eq with toneHigh := upd u.eq.toneHigh i fun _ => coeffsOf bs } }, .plain .done) := by
  rw [takeLoadTone, if_neg (not_not.mpr setup)]
  simp only [shelf, index, value]

/-! ### LOAD_VOICING (R137) -/

theorem takeLoadVoicing_mode (h : u.ctl.mode ≠ .setup) (fs : List Field) :
    takeLoadVoicing lane fs u = (u, .plain .mode) := if_pos h

theorem takeLoadVoicing_badarg (setup : u.ctl.mode = .setup)
    (h : (natField fs 0x20#8).bind (finOf 24) = none ∨ fieldValue fs 0x38#8 = none) :
    takeLoadVoicing lane fs u = (u, .plain .badarg) := by
  rw [takeLoadVoicing, if_neg (not_not.mpr setup)]
  rcases h with h | h <;> rw [h]
  cases (natField fs 0x20#8).bind (finOf 24) <;> rfl

theorem takeLoadVoicing_written {sp : SpeakerId} {bs : List Byte} (setup : u.ctl.mode = .setup)
    (speaker : natField fs 0x20#8 = some sp.val) (value : fieldValue fs 0x38#8 = some bs) :
    takeLoadVoicing lane fs u =
      ({ u with eq := { u.eq with speakers := upd u.eq.speakers sp fun e => { e with
          voicing := #v[coeffsOf bs, coeffsOf (bs.drop 15), coeffsOf (bs.drop 30), coeffsOf (bs.drop 45)] } } },
        .plain .done) := by
  rw [takeLoadVoicing, if_neg (not_not.mpr setup), speaker, Option.bind_some, finOf_val, value]

end

/-- The four sections of a voicing stand at every fifteenth byte (R137). -/
theorem voicing_entry (bs : List Byte) (n : Fin 4) :
    (#v[coeffsOf bs, coeffsOf (bs.drop 15), coeffsOf (bs.drop 30), coeffsOf (bs.drop 45)])[n] =
      coeffsOf (bs.drop (15 * n.val)) := by
  match n with
  | 0 => rfl
  | 1 => rfl
  | 2 => rfl
  | 3 => rfl

/-- The tone table after the entry of one index is written, read by index. -/
theorem toneTable_written {table : Vector Coeffs 25} {i : Fin 25} {index : Int} (hi : (i.val : Int) = index + 12)
    (c : Coeffs) (n : Fin 25) :
    (upd table i fun _ => c)[n] = if (n.val : Int) = index + 12 then c else table[n] := by
  have same : n = i ↔ (n.val : Int) = index + 12 := by
    rw [Fin.ext_iff]
    omega
  rw [upd_get]
  simp only [same]

/-- Settles O23: the three requests by the mode and by their owners' outcomes. -/
theorem setupLoadsWriteTheirEntry : Obligations.SetupLoadsWriteTheirEntry := by
  refine ⟨headLaneOnly_of_headOnly rfl exec_setQuota, headLaneOnly_of_headOnly rfl exec_loadTone,
    headLaneOnly_of_headOnly rfl exec_loadVoicing, fun s w fs u ha => ?quota, fun s w fs u ha => ?tone,
    fun s w fs u ha => ?voicing⟩
  case quota =>
    refine ⟨fun mode => exec_plain (exec_setQuota w s) ha (takeSetQuota_mode _ mode _), fun setup h => ?_,
      fun lane q setup hlane hq => ?_⟩
    · refine exec_plain (exec_setQuota w s) ha (takeSetQuota_badarg _ setup ?_)
      rcases h with h | h | h
      · exact .inl (finField_eq_none (.inl h))
      · exact .inr h
      · exact .inl (finField_eq_none (.inr h))
    · have written := exec_taken (exec_setQuota w s) ha (takeSetQuota_written _ setup hlane hq) decide_eq_true_iff
      exact ⟨_, written, upd_self .., fun other hne => upd_ne _ _ _ _ hne⟩
  case tone =>
    refine ⟨fun mode => exec_plain (exec_loadTone w s) ha (takeLoadTone_mode _ mode _), fun setup h => ?_,
      fun high index bs setup shelf hindex low_end high_end value => ?_⟩
    · refine exec_plain (exec_loadTone w s) ha (takeLoadTone_badarg _ setup ?_)
      rcases h with h | h | h | ⟨n, hn, above⟩ | ⟨x, hx, outside⟩
      · exact .inl fun n hn => absurd (h.symm.trans hn) nofun
      · exact .inr (.inl (by rw [h, Option.bind_none]))
      · exact .inr (.inr h)
      · refine .inl fun m hm => ?_
        cases hn.symm.trans hm
        exact above
      · exact .inr (.inl (by rw [hx, Option.bind_some, toneEntry_eq_none outside]))
    · obtain ⟨i, hi⟩ : ∃ i : Fin 25, (i.val : Int) = index + 12 := ⟨⟨(index + 12).toNat, by omega⟩, by simp; omega⟩
      have entry : (intField fs 0x36#8).bind toneEntry = some i := by
        rw [hindex, Option.bind_some, toneEntry_eq_some.mpr hi]
      cases high with
      | false =>
        have written := exec_plain (exec_loadTone w s) ha (takeLoadTone_low _ setup shelf entry value)
        refine ⟨_, u.eq.toneHigh, written, fun n => ⟨?_, ?_⟩⟩
        · rw [toneTable_written hi]
          simp only [true_and]
        · rw [if_neg (by simp)]
      | true =>
        have written := exec_plain (exec_loadTone w s) ha (takeLoadTone_high _ setup shelf entry value)
        refine ⟨u.eq.toneLow, _, written, fun n => ⟨?_, ?_⟩⟩
        · rw [if_neg (by simp)]
        · rw [toneTable_written hi]
          simp only [true_and]
  case voicing =>
    refine ⟨fun mode => exec_plain (exec_loadVoicing w s) ha (takeLoadVoicing_mode _ mode _), fun setup h => ?_,
      fun sp bs setup speaker value => ?_⟩
    · refine exec_plain (exec_loadVoicing w s) ha (takeLoadVoicing_badarg _ setup ?_)
      rcases h with h | h | h
      · exact .inl (finField_eq_none (.inl h))
      · exact .inr h
      · exact .inl (finField_eq_none (.inr h))
    · have written := exec_plain (exec_loadVoicing w s) ha (takeLoadVoicing_written _ setup speaker value)
      refine ⟨_, written, ?_, fun n => ?_, fun other hne => upd_ne _ _ _ _ hne⟩
      · rw [upd_get, if_pos rfl]
      · rw [upd_get, if_pos rfl]
        exact voicing_entry bs n

/-! ### SPEED and SET_STALE (R71 to R75) -/

theorem exec_speed (w : Window) (s : State) : exec (.speed w) s = .next (s.request .speed w takeSpeed) := rfl

theorem exec_setStale (w : Window) (s : State) :
    exec (.setStale w) s = .next (s.request .setStale w takeSetStale) := rfl

section
variable {u : State} {fs : List Field} (lane : LaneId)

theorem takeSpeed_badarg (h : natField fs 0x10#8 = none) (u : State) :
    takeSpeed lane fs u = (u, .plain .badarg) := by
  rw [takeSpeed, h]

theorem takeSpeed_report {v : Nat} (value : natField fs 0x10#8 = some v) (valid : v ≠ 65535) (u : State) :
    takeSpeed lane fs u =
      ({ u with speed := { u.speed with
          reported := min v 1200, freshness := .fresh, staleTimer := some u.speed.staleTime } },
        .taken (decide (1200 < v))) := by
  have changed : min v 1200 ≠ v ↔ 1200 < v := by omega
  simp only [takeSpeed, value, clampNat_zero, changed]
  exact if_neg valid

theorem takeSpeed_stale (value : natField fs 0x10#8 = some 65535) :
    takeSpeed lane fs u = (if u.speed.freshness = .fresh then u.goStale else u, .plain .done) := by
  rw [takeSpeed, value]
  exact if_pos rfl

theorem takeSetStale_badarg (h : natField fs 0x11#8 = none) (u : State) :
    takeSetStale lane fs u = (u, .plain .badarg) := by
  rw [takeSetStale, h]

theorem takeSetStale_written {v : Nat} (value : natField fs 0x11#8 = some v) (u : State) :
    takeSetStale lane fs u =
      ({ u with speed := { u.speed with staleTime := max 100 (min v 2000) } },
        .taken (decide (v < 100 ∨ 2000 < v))) := by
  have changed : max 100 (min v 2000) ≠ v ↔ v < 100 ∨ 2000 < v := by omega
  simp only [takeSetStale, value, clampNat_eq (show 100 ≤ 2000 by decide), changed]

end

/-- Settles O24, by the value that a SPEED carries and the freshness it finds. -/
theorem speedReportsAndStaleTime : Obligations.SpeedReportsAndStaleTime := by
  refine ⟨headLaneOnly_of_headOnly rfl exec_setStale, fun s w fs u ha => ?speed, fun s w fs u ha => ?stale⟩
  case speed =>
    refine ⟨fun h => exec_plain (exec_speed w s) ha (takeSpeed_badarg _ h u), fun v value valid => ?_,
      fun value fresh => ?_, fun value stale => ?_⟩
    · exact exec_taken (exec_speed w s) ha (takeSpeed_report _ value valid u) decide_eq_true_iff
    · have outcome := takeSpeed_stale (u := u) w.lane value
      rw [if_pos fresh, State.goStale_fresh fresh] at outcome
      exact exec_plain (exec_speed w s) ha outcome
    · have outcome := takeSpeed_stale (u := u) w.lane value
      rw [if_neg (by rw [stale]; nofun)] at outcome
      exact exec_plain (exec_speed w s) ha outcome
  case stale =>
    refine ⟨fun h => exec_plain (exec_setStale w s) ha (takeSetStale_badarg _ h u), fun v value => ?_⟩
    exact exec_taken (exec_setStale w s) ha (takeSetStale_written _ value u) decide_eq_true_iff

end Sys2Proof.Machine
end

section
/-! PROOF. The requests on routes: ADJUST, CLOSE, QUERY and LIST. Each owner's outcome on the route that its
handle names is said once, and an admitted request is its owner's outcome. -/
namespace Sys2Proof.Machine

/-- An admitted request is answered with its owner's answer, cut at the lane's limit. -/
theorem exec_answered {c : Instr} {s u v : State} {k : Kind} {w : Window} {fs : List Field} {owner : Owner}
    {a : Answer} (request : exec c s = .next (s.request k w owner)) (ha : Admits s k w fs u)
    (outcome : owner w.lane fs u = (v, a)) :
    exec c s = .next { v with link := v.replied k w (a.payload u.link.limits[w.lane]) } := by
  rw [request, State.request_admitted ha, outcome, State.answer_eq, State.replied]

theorem exec_adjust (w : Window) (s : State) : exec (.adjust w) s = .next (s.request .adjust w takeAdjust) := rfl

theorem exec_close (w : Window) (s : State) : exec (.close w) s = .next (s.request .close w takeClose) := rfl

theorem exec_query (w : Window) (s : State) : exec (.query w) s = .next (s.request .query w takeQuery) := rfl

theorem exec_list (w : Window) (s : State) : exec (.list w) s = .next (s.request .list w takeList) := rfl

/-! ### ADJUST (R35, R36) -/

section
variable {u : State} {fs : List Field} {lane : LaneId} {i : SlotId} {r : Route}

theorem takeAdjust_stale (h : u.slotOf (handleField fs) = none) (lane : LaneId) :
    takeAdjust lane fs u = (u, .plain .stale) := by
  rw [takeAdjust, h]

theorem takeAdjust_denied (slot : u.slotOf (handleField fs) = some (i, r)) (h : lane ≠ r.owner) (h' : lane ≠ 0) :
    takeAdjust lane fs u = (u, .plain .denied) := by
  rw [takeAdjust, slot]
  exact if_pos ⟨h, h'⟩

/-- On a route of the lane, or from lane 0, ADJUST acts by the route's state and its fields. -/
theorem takeAdjust_own (slot : u.slotOf (handleField fs) = some (i, r)) (own : lane = r.owner ∨ lane = 0) :
    takeAdjust lane fs u =
      if r.state = .closing then (u, .plain .late)
      else
        match adjustArgs fs with
        | none => (u, .plain .badarg)
        | some a => (u.setRoute i (some (r.adjusted a)), .taken a.clamped) := by
  rw [takeAdjust, slot]
  exact if_neg fun ⟨h, h'⟩ => own.elim h h'

theorem takeAdjust_late (slot : u.slotOf (handleField fs) = some (i, r)) (own : lane = r.owner ∨ lane = 0)
    (closing : r.state = .closing) : takeAdjust lane fs u = (u, .plain .late) := by
  rw [takeAdjust_own slot own, if_pos closing]

theorem takeAdjust_badarg (slot : u.slotOf (handleField fs) = some (i, r)) (own : lane = r.owner ∨ lane = 0)
    (plays : r.state ≠ .closing) (args : adjustArgs fs = none) : takeAdjust lane fs u = (u, .plain .badarg) := by
  rw [takeAdjust_own slot own, if_neg plays, args]

theorem takeAdjust_written {a : AdjustArgs} (slot : u.slotOf (handleField fs) = some (i, r))
    (own : lane = r.owner ∨ lane = 0) (plays : r.state ≠ .closing) (args : adjustArgs fs = some a) :
    takeAdjust lane fs u = (u.setRoute i (some (r.adjusted a)), .taken a.clamped) := by
  rw [takeAdjust_own slot own, if_neg plays, args]

end

/-- The tags of the fields that an ADJUST may change (R36). -/
def adjustTags : List Byte := [0x05#8, 0x06#8, 0x07#8, 0x08#8, 0x09#8, 0x0A#8]

theorem hasField_adjustTags (fs : List Field) :
    (hasField fs 0x05#8 || hasField fs 0x06#8 || hasField fs 0x07#8 || hasField fs 0x08#8
      || hasField fs 0x09#8 || hasField fs 0x0A#8) = adjustTags.any (hasField fs) := by
  simp only [adjustTags, List.any_cons, List.any_nil, Bool.or_false, Bool.or_assoc]

theorem adjustArgs_eq_none {fs : List Field}
    (h : codeField fs 0x05#8 zonesOfCode = none ∨ placementField fs = none ∨ codeField fs 0x08#8 boolOfCode = none
      ∨ codeField fs 0x09#8 (finOf 8) = none ∨ ∀ tag ∈ adjustTags, fieldValue fs tag = none) :
    adjustArgs fs = none := by
  rw [adjustArgs, hasField_adjustTags]
  cases zones : codeField fs 0x05#8 zonesOfCode with
  | none => rfl
  | some _ =>
    cases place : placementField fs with
    | none => rfl
    | some _ =>
      cases follows : codeField fs 0x08#8 boolOfCode with
      | none => rfl
      | some _ =>
        cases ramp : codeField fs 0x09#8 (finOf 8) with
        | none => rfl
        | some _ =>
          rw [zones, place, follows, ramp] at h
          have absent := (((h.resolve_left nofun).resolve_left nofun).resolve_left nofun).resolve_left nofun
          refine if_neg ?_
          rw [List.any_eq_true]
          rintro ⟨tag, mem, present⟩
          rw [hasField, absent tag mem] at present
          cases present

theorem adjustArgs_eq_some {fs : List Field} {zones : Option ZoneSet} {placement : PlacementArg}
    {followsSpeed : Option Bool} {ramp : Option (Fin 8)} (hz : codeField fs 0x05#8 zonesOfCode = some zones)
    (hp : placementField fs = some placement) (hf : codeField fs 0x08#8 boolOfCode = some followsSpeed)
    (hr : codeField fs 0x09#8 (finOf 8) = some ramp) (present : ∃ tag ∈ adjustTags, (fieldValue fs tag).isSome = true) :
    adjustArgs fs =
      some { level := intField fs 0x06#8, placement, zones, followsSpeed, ramp, hold := natField fs 0x0A#8 } := by
  rw [adjustArgs, hasField_adjustTags, hz, hp, hf, hr]
  exact if_pos (List.any_eq_true.mpr present)

theorem holdOfField_some (n : Nat) : holdOfField (some n) = if n = 0 then none else some n := by
  cases n <;> rfl

/-- The clamp of an ADJUST changed its level, or its placement (R36). -/
theorem AdjustArgs.clamped_iff (a : AdjustArgs) :
    a.clamped = true ↔
      (∃ x, a.level = some x ∧ (x < -480 ∨ 0 < x)) ∨ ∃ p, a.placement = .placed p true := by
  rw [AdjustArgs.clamped, Bool.or_eq_true, clampChanges_iff (by decide)]
  refine or_congr_right ?_
  cases a.placement with
  | placed p adjusted => cases adjusted <;> simp
  | _ => simp

/-- The record after an ADJUST, field by field. -/
theorem Route.adjusted_eq (r : Route) (a : AdjustArgs) :
    r.adjusted a =
      { r with
        level := (a.level.map fun x => max (-480) (min x 0)).getD r.level
        placement := (match a.placement with
          | .absent => r.placement
          | .removal => none
          | .placed p _ => some p)
        zones := a.zones.getD r.zones
        followsSpeed := a.followsSpeed.getD r.followsSpeed
        ramp := a.ramp.getD r.ramp
        holdTime := (match a.hold with | none => r.holdTime | some n => if n = 0 then none else some n)
        holdLeft := (match a.hold with | none => r.holdLeft | some n => if n = 0 then none else some n) } := by
  obtain ⟨level, placement, zones, followsSpeed, ramp, hold⟩ := a
  rw [Route.adjusted, Route.mk.injEq]
  refine ⟨rfl, rfl, rfl, rfl, rfl, ?_, by cases placement <;> rfl, rfl, rfl, ?_, rfl, rfl, ?_⟩
  · cases level with
    | none => rfl
    | some x => exact clampTo_eq (by decide) x
  · cases hold with
    | none => rfl
    | some n => exact holdOfField_some n
  · cases hold with
    | none => rfl
    | some n => exact holdOfField_some n

/-- Settles O30, by the route's owner and state and by what the fields read as. -/
theorem adjustChangesTheFieldsItCarries : Obligations.AdjustChangesTheFieldsItCarries := by
  refine fun s w fs u i r ha slot => ⟨fun other client => ?_, fun own closing => ?_, fun own plays h => ?_, ?_⟩
  · exact exec_plain (exec_adjust w s) ha (takeAdjust_denied slot other client)
  · exact exec_plain (exec_adjust w s) ha (takeAdjust_late slot own closing)
  · exact exec_plain (exec_adjust w s) ha (takeAdjust_badarg slot own plays (adjustArgs_eq_none h))
  · intro zones place followsSpeed ramp own plays hz hp hf hr present
    have args := adjustArgs_eq_some hz hp hf hr present
    have written := exec_taken (exec_adjust w s) ha (takeAdjust_written slot own plays args) Iff.rfl
    rw [Route.adjusted_eq] at written
    exact ⟨_, written, doneOr_cases _, (doneOr_eq_adjusted_iff _).trans (AdjustArgs.clamped_iff _)⟩

/-! ### CLOSE (R38, R39) -/

section
variable {u : State} {fs : List Field} {lane : LaneId} {i : SlotId} {r : Route}

theorem takeClose_stale (h : u.slotOf (handleField fs) = none) (lane : LaneId) :
    takeClose lane fs u = (u, .plain .stale) := by
  rw [takeClose, h]

theorem takeClose_denied (slot : u.slotOf (handleField fs) = some (i, r)) (h : lane ≠ r.owner) (h' : lane ≠ 0) :
    takeClose lane fs u = (u, .plain .denied) := by
  rw [takeClose, slot]
  exact if_pos ⟨h, h'⟩

/-- On a route of the lane, or from lane 0, CLOSE acts by its cut flag. -/
theorem takeClose_own (slot : u.slotOf (handleField fs) = some (i, r)) (own : lane = r.owner ∨ lane = 0) :
    takeClose lane fs u =
      match (natField fs 0x0B#8).bind boolOfCode with
      | none => (u, .plain .badarg)
      | some cut => (u.setRoute i (some (r.closedBy cut)), .plain .done) := by
  rw [takeClose, slot]
  exact if_neg fun ⟨h, h'⟩ => own.elim h h'

theorem boolOfCode_large {n : Nat} (h : 1 < n) : boolOfCode n = none := by
  match n with
  | n + 2 => rfl

theorem boolOfCode_flag (b : Bool) : boolOfCode (if b then 1 else 0) = some b := by
  cases b <;> rfl

theorem takeClose_badarg (slot : u.slotOf (handleField fs) = some (i, r)) (own : lane = r.owner ∨ lane = 0)
    (unsound : ∀ n, natField fs 0x0B#8 = some n → 1 < n) : takeClose lane fs u = (u, .plain .badarg) := by
  have flag : (natField fs 0x0B#8).bind boolOfCode = none :=
    Option.bind_eq_none_iff.mpr fun n hn => boolOfCode_large (unsound n hn)
  rw [takeClose_own slot own, flag]

theorem takeClose_written {cut : Bool} (slot : u.slotOf (handleField fs) = some (i, r))
    (own : lane = r.owner ∨ lane = 0) (flag : natField fs 0x0B#8 = some (if cut then 1 else 0)) :
    takeClose lane fs u = (u.setRoute i (some (r.closedBy cut)), .plain .done) := by
  rw [takeClose_own slot own, flag, Option.bind_some, boolOfCode_flag]

end

/-- Writing the route that stands in a slot changes nothing. -/
theorem State.setRoute_same {u : State} {i : SlotId} {r : Route} (h : u.routeAt i = some r) :
    u.setRoute i (some r) = u := by
  have same : (upd u.table.slots i fun slot => { slot with route := some r }) = u.table.slots := by
    refine vector_ext fun j => ?_
    rw [upd_get]
    split
    · next e =>
      rw [State.routeAt] at h
      rw [e, ← h]
    · rfl
  rw [State.setRoute, same]

/-- Settles O31, by the cut flag and the route's state. -/
theorem closeStartsOrCutsTheFade : Obligations.CloseStartsOrCutsTheFade := by
  refine fun s w fs u i r ha slot => ⟨fun other client => ?_, fun own unsound => ?_, fun cut own flag => ?_⟩
  · exact exec_plain (exec_close w s) ha (takeClose_denied slot other client)
  · exact exec_plain (exec_close w s) ha (takeClose_badarg slot own unsound)
  · have written := exec_plain (exec_close w s) ha (takeClose_written slot own flag)
    rw [Route.closedBy] at written
    refine ⟨fun plays => ?_, fun closing cuts => ?_, fun closing keeps => ?_⟩
    · rw [if_neg plays] at written
      exact written
    · rw [if_pos closing, if_pos cuts] at written
      exact written
    · rw [if_pos closing, if_neg (by rw [keeps]; nofun), State.setRoute_same (State.slotOf_routeAt slot)] at written
      exact written

/-! ### QUERY and LIST (R46 to R49) -/

theorem takeQuery_stale {u : State} {fs : List Field} (h : u.slotOf (handleField fs) = none) (lane : LaneId) :
    takeQuery lane fs u = (u, .plain .stale) := by
  rw [takeQuery, h]

theorem takeQuery_done {u : State} {fs : List Field} {i : SlotId} {r : Route}
    (slot : u.slotOf (handleField fs) = some (i, r)) (lane : LaneId) :
    takeQuery lane fs u = (u, ⟨.done, u.queryItems i r⟩) := by
  rw [takeQuery, slot]

theorem takeList_badarg {fs : List Field} (h : natField fs 0x0C#8 = none) (lane : LaneId) (u : State) :
    takeList lane fs u = (u, .plain .badarg) := by
  rw [takeList, h]

theorem takeList_done {fs : List Field} {offset : Nat} (h : natField fs 0x0C#8 = some offset) (lane : LaneId)
    (u : State) :
    takeList lane fs u = (u, ⟨.done, [byte u.table.count] :: (u.table.order.drop offset).map u.listEntry⟩) := by
  rw [takeList, h]

/-- Settles O29: what `State.slotOf` accepts, and the three owners where it accepts nothing. -/
theorem handlesAreAcceptedByGeneration : Obligations.HandlesAreAcceptedByGeneration :=
  ⟨State.slotOf_eq_some,
    fun s w _ _ ha h => exec_plain (exec_adjust w s) ha (takeAdjust_stale h _),
    fun s w _ _ ha h => exec_plain (exec_close w s) ha (takeClose_stale h _),
    fun s w _ _ ha h => exec_plain (exec_query w s) ha (takeQuery_stale h _)⟩

/-- The opening order list holds each route's slot once, so it is as long as the table counts. -/
theorem RouteTable.count_eq_length {s : State} (nodup : s.table.order.Nodup)
    (listed : ∀ i : SlotId, i ∈ s.table.order ↔ (s.routeAt i).isSome = true) :
    s.table.count = s.table.order.length := by
  have perm : s.table.order.Perm ((List.finRange 32).filter fun i => (s.routeAt i).isSome) := by
    refine (List.perm_ext_iff_of_nodup nodup ((List.nodup_finRange 32).filter _)).mpr fun i => ?_
    rw [listed, List.mem_filter]
    exact ⟨fun h => ⟨List.mem_finRange i, h⟩, fun h => h.2⟩
  rw [perm.length_eq, RouteTable.count, toList_eq_map, List.countP_map, List.countP_eq_length_filter]
  rfl

/-- The record that QUERY reports. -/
theorem State.queryItems_eq {u : State} {i : SlotId} {r : Route} (slot : u.routeAt i = some r) :
    u.queryItems i r =
      [ [byte i.val, (u.handleAt i).gen], [byte r.owner.val], [byte r.cls.code],
        [byte r.source.val], [byte r.width.code], [byte r.zones.toNat], leInt16 r.level,
        (match r.placement with
          | some p => [1#8, BitVec.ofInt 8 p.balance, BitVec.ofInt 8 p.fade]
          | none => [0#8, 0#8, 0#8]),
        [flagByte r.followsSpeed], [byte r.ramp.val], le16 (r.holdTime.getD 0), [byte r.state.code],
        [causeByte r.cause], le16 (r.holdLeft.getD 0),
        [byte (if u.prec.spill[i] then 15 else r.zones.toNat)], [flagByte u.prec.spill[i]],
        [byte ((List.finRange 24).countP fun sp => (u.grid[sp]).holds i)],
        [byte ((List.finRange 24).countP fun sp => ((u.grid[sp]).cells[i]).waiting)],
        [byte (u.table.order.idxOf i)] ] := by
  have zones : (u.effectiveZones i).toNat = if u.prec.spill[i] then 15 else r.zones.toNat := by
    rw [State.effectiveZones_of_route slot]
    split <;> rfl
  have held : u.lanesHeld i = (List.finRange 24).countP fun sp => (u.grid[sp]).holds i := by
    rw [State.lanesHeld, toList_eq_map, List.countP_map]
    rfl
  have waiting : u.cellsWaiting i = (List.finRange 24).countP fun sp => ((u.grid[sp]).cells[i]).waiting := by
    rw [State.cellsWaiting, toList_eq_map, List.countP_map]
    rfl
  rw [State.queryItems, zones, held, waiting, Route.placed]
  cases r.placement <;> rfl

theorem State.listEntry_of_route {u : State} {i : SlotId} {r : Route} (slot : u.routeAt i = some r) :
    u.listEntry i = [byte i.val, (u.handleAt i).gen, byte r.owner.val, byte r.cls.code, byte r.state.code] := by
  rw [State.listEntry, slot]
  rfl

/-- Settles O32: the record that QUERY reports, and the opening order list from the offset on. -/
theorem queryAndListReportTheTable : Obligations.QueryAndListReportTheTable := by
  refine ⟨fun s w fs u i r ha slot => ?query, fun s w fs u ha inv => ⟨fun h => ?_, fun offset value => ?list⟩⟩
  case query =>
    have answered := exec_answered (exec_query w s) ha (takeQuery_done slot _)
    rw [State.queryItems_eq (State.slotOf_routeAt slot)] at answered
    exact answered
  · exact exec_plain (exec_list w s) ha (takeList_badarg h _ u)
  case list =>
    obtain ⟨nodup, listed, -⟩ := inv
    have answered := exec_answered (exec_list w s) ha (takeList_done value _ u)
    rw [RouteTable.count_eq_length nodup listed] at answered
    refine ⟨_, _, answered, rfl, ?_, fun n i r place slot => ?_⟩
    · rw [List.length_map, List.length_drop]
    · rw [List.getElem?_map, List.getElem?_drop, place, Option.map_some, State.listEntry_of_route slot]

end Sys2Proof.Machine
end

section
/-! PROOF. OPEN: the record that its fields spell, and the slot that the record enters (R22 to R34). -/
namespace Sys2Proof.Machine

theorem exec_openRoute (w : Window) (s : State) :
    exec (.openRoute w) s = .next (s.request .openRoute w takeOpen) := rfl

@[simp] theorem Width.ofCode_code (width : Width) : Width.ofCode width.code = some width := by
  cases width <;> rfl

theorem holdOfField_eq (o : Option Nat) : holdOfField o = if o.getD 0 = 0 then none else some (o.getD 0) := by
  cases o with
  | none => rfl
  | some n => exact holdOfField_some n

/-- The placement that an argument of OPEN asks for: none but where one is placed (R33). -/
def PlacementArg.asked : PlacementArg → Option Placement
  | .placed p _ => some p
  | _ => none

/-- The placement was clamped. -/
def PlacementArg.changed : PlacementArg → Bool
  | .placed _ adjusted => adjusted
  | _ => false

theorem PlacementArg.changed_iff (place : PlacementArg) : place.changed = true ↔ ∃ p, place = .placed p true := by
  cases place with
  | placed p adjusted => cases adjusted <;> simp [PlacementArg.changed]
  | _ => simp [PlacementArg.changed]

theorem openRecord_eq_none (lane : LaneId) {fs : List Field}
    (h : (natField fs 0x02#8).bind RouteClass.ofCode = none ∨ (natField fs 0x03#8).bind (finOf 16) = none
      ∨ (natField fs 0x04#8).bind Width.ofCode = none ∨ (natField fs 0x05#8).bind zonesOfCode = none
      ∨ intField fs 0x06#8 = none ∨ (natField fs 0x08#8).bind boolOfCode = none
      ∨ (natField fs 0x09#8).bind (finOf 8) = none ∨ placementField fs = none
      ∨ (natField fs 0x04#8 = some Width.stereo.code ∧ natField fs 0x03#8 = some 15)) :
    openRecord lane fs = none := by
  by_contra some_record
  obtain ⟨p, hp⟩ := Option.ne_none_iff_exists'.mp some_record
  simp only [openRecord, Option.bind_eq_bind, Option.bind_eq_some_iff] at hp
  obtain ⟨cls, hcls, source, hsource, width, hwidth, zones, hzones, level, hlevel, follows, hfollows, ramp, hramp,
    place, hplace, record⟩ := hp
  rw [Option.bind_eq_some_iff.mpr hcls, Option.bind_eq_some_iff.mpr hsource, Option.bind_eq_some_iff.mpr hwidth,
    Option.bind_eq_some_iff.mpr hzones, hlevel, Option.bind_eq_some_iff.mpr hfollows,
    Option.bind_eq_some_iff.mpr hramp, hplace] at h
  obtain ⟨stereo, fixed⟩ := (((((((h.resolve_left nofun).resolve_left nofun).resolve_left nofun).resolve_left
    nofun).resolve_left nofun).resolve_left nofun).resolve_left nofun).resolve_left nofun
  obtain ⟨code, sent, named⟩ := hwidth
  cases stereo.symm.trans sent
  obtain ⟨number, sent', named'⟩ := hsource
  cases fixed.symm.trans sent'
  rw [Width.ofCode_code, Option.some.injEq] at named
  rw [if_pos ⟨named.symm, Fin.ext (finOf_eq_some.mp named')⟩] at record
  cases record

theorem openRecord_eq_some (lane : LaneId) {fs : List Field} {cls : RouteClass} {source : Fin 16} {width : Width}
    {zones : ZoneSet} {level : Int} {followsSpeed : Bool} {ramp : Fin 8} {place : PlacementArg}
    (hcls : natField fs 0x02#8 = some cls.code) (hsource : natField fs 0x03#8 = some source.val)
    (hwidth : natField fs 0x04#8 = some width.code) (hzones : (natField fs 0x05#8).bind zonesOfCode = some zones)
    (hlevel : intField fs 0x06#8 = some level) (hfollows : (natField fs 0x08#8).bind boolOfCode = some followsSpeed)
    (hramp : natField fs 0x09#8 = some ramp.val) (hplace : placementField fs = some place)
    (sound : ¬(width = .stereo ∧ source = 15)) :
    openRecord lane fs =
      some
        ({ owner := lane, cls, source, width, zones, followsSpeed, ramp
           level := max (-480) (min level 0)
           placement := place.asked
           holdTime := holdOfField (natField fs 0x0A#8)
           state := .opening, cause := none
           holdLeft := holdOfField (natField fs 0x0A#8) },
          decide (max (-480) (min level 0) ≠ level) || place.changed) := by
  rw [openRecord, hcls, hsource, hwidth, hzones, hlevel, hfollows, hramp, hplace]
  simp only [Option.bind_eq_bind, Option.bind_some, RouteClass.ofCode_code, finOf_val, Width.ofCode_code, if_neg sound,
    clampTo_eq (show (-480 : Int) ≤ 0 by decide)]
  cases place <;> rfl

/-! ### The outcomes of OPEN -/

section
variable {u : State} {lane : LaneId} {fs : List Field} {r : Route} {adjusted : Bool}

theorem takeOpen_mode (h : u.ctl.mode ≠ .run) (lane : LaneId) (fs : List Field) :
    takeOpen lane fs u = (u, .plain .mode) := if_pos h

theorem takeOpen_badarg (run : u.ctl.mode = .run) (h : openRecord lane fs = none) :
    takeOpen lane fs u = (u, .plain .badarg) := by
  rw [takeOpen, if_neg (not_not.mpr run), h]

theorem takeOpen_quota (run : u.ctl.mode = .run) (h : openRecord lane fs = some (r, adjusted))
    (quota : u.table.quotas[lane] ≤ u.table.owned lane) : takeOpen lane fs u = (u, .plain .quota) := by
  rw [takeOpen, if_neg (not_not.mpr run), h]
  exact if_pos quota

theorem takeOpen_full (run : u.ctl.mode = .run) (h : openRecord lane fs = some (r, adjusted))
    (quota : u.table.owned lane < u.table.quotas[lane]) (full : u.table.isFull r.cls = true) :
    takeOpen lane fs u = (u, .plain .full) := by
  rw [takeOpen, if_neg (not_not.mpr run), h]
  exact (if_neg (Nat.not_le.mpr quota)).trans (if_pos full)

theorem takeOpen_enters {i : SlotId} (run : u.ctl.mode = .run) (h : openRecord lane fs = some (r, adjusted))
    (quota : u.table.owned lane < u.table.quotas[lane]) (space : ¬u.table.isFull r.cls = true)
    (lowest : u.table.lowestFree = some i) :
    takeOpen lane fs u =
      (u.enterRoute i r,
        ⟨if adjusted then .adjusted else .done, [[byte i.val, nextGeneration (u.table.slots[i]).gen]]⟩) := by
  have handle : ((u.enterRoute i r).handleAt i).bytes = [byte i.val, nextGeneration (u.table.slots[i]).gen] := by
    rw [Handle.bytes, State.enterRoute_handleAt, if_pos rfl]
    rfl
  rw [takeOpen, if_neg (not_not.mpr run), h, ← handle]
  dsimp only
  rw [if_neg (Nat.not_le.mpr quota), if_neg space, lowest]

end

theorem RouteTable.isFull_iff (t : RouteTable) (cls : RouteClass) :
    t.isFull cls = true ↔ (if cls = .alert then 32 else 30) ≤ t.count := by
  rw [RouteTable.isFull]
  split <;> exact decide_eq_true_iff

theorem State.owned_eq (u : State) (lane : LaneId) :
    u.table.owned lane =
      (List.finRange 32).countP fun i => (u.routeAt i).any fun r => decide (r.owner = lane) := by
  rw [RouteTable.owned_eq, toList_eq_map, List.countP_map]
  rfl

theorem State.count_eq (u : State) :
    u.table.count = (List.finRange 32).countP fun i => (u.routeAt i).isSome := by
  rw [RouteTable.count, toList_eq_map, List.countP_map]
  rfl

/-- An answer that fits within the limit is carried whole, TRUNC clear (R186). -/
theorem Answer.payload_whole {r : Result} {items : List (List Byte)} {limit : Nat}
    (h : 2 + items.flatten.length ≤ limit) : (Answer.mk r items).payload limit = r.code :: 0#8 :: items.flatten := by
  obtain ⟨n, bound, payload, -, next⟩ := (Answer.mk r items).payload_law (limit := limit) (by omega)
  dsimp only at bound payload next
  have all : n = items.length := by
    by_contra short
    have more : n < items.length := by omega
    have beyond := next more
    have cut := (List.take_sublist (n + 1) items).flatten.length_le
    omega
  rw [payload, all, List.take_length, decide_eq_false (Nat.lt_irrefl _)]
  rfl

/-- The clamp of an OPEN changed its level, or its placement (R33). -/
theorem openClamp_iff (level : Int) (place : PlacementArg) :
    (decide (max (-480) (min level 0) ≠ level) || place.changed) = true ↔
      level < -480 ∨ 0 < level ∨ ∃ p, place = .placed p true := by
  rw [Bool.or_eq_true, decide_eq_true_iff, PlacementArg.changed_iff, ← or_assoc]
  exact or_congr_left (by omega)

/-- Settles O28, by the mode, the fields, the quota and the space, in the order of OPEN's checks. -/
theorem openTakesTheLowestFreeSlot : Obligations.OpenTakesTheLowestFreeSlot := by
  refine fun s w fs u ha => ⟨fun mode => ?_, fun run h => ?_, ?_⟩
  · exact exec_plain (exec_openRoute w s) ha (takeOpen_mode mode ..)
  · exact exec_plain (exec_openRoute w s) ha (takeOpen_badarg run (openRecord_eq_none _ h))
  intro cls source width zones level followsSpeed ramp place hold run hcls hsource hwidth hzones hlevel hfollows hramp
    hplace hhold sound owned count
  have record := openRecord_eq_some w.lane hcls hsource hwidth hzones hlevel hfollows hramp hplace sound
  rw [holdOfField_eq, hhold] at record
  have ownedEq : u.table.owned w.lane = owned := u.owned_eq w.lane
  have countEq : u.table.count = count := u.count_eq
  refine ⟨fun quota => ?_, fun quota full => ?_, fun i quota space free lower limit => ?_⟩
  · exact exec_plain (exec_openRoute w s) ha (takeOpen_quota run record (ownedEq ▸ quota))
  · have isFull := (u.table.isFull_iff cls).mpr (countEq ▸ full)
    exact exec_plain (exec_openRoute w s) ha (takeOpen_full run record (ownedEq ▸ quota) isFull)
  · have notFull := (u.table.isFull_iff cls).not.mpr (countEq ▸ Nat.not_le.mpr space)
    have lowest := RouteTable.lowestFree_law.mpr ⟨free, lower⟩
    have answered := exec_answered (exec_openRoute w s) ha
      (takeOpen_enters run record (ownedEq ▸ quota) notFull lowest)
    rw [Answer.payload_whole (by exact limit), State.enterRoute] at answered
    refine ⟨_, _, answered, rfl, ?_, ?_, fun j other => ⟨upd_ne _ _ _ _ other, upd_ne _ _ _ _ other⟩, ?_, ?_⟩
    · dsimp only
      rw [upd_get, if_pos rfl]
      cases place <;> rfl
    · dsimp only
      rw [upd_get, if_pos rfl]
    · exact fun clamped => if_pos ((openClamp_iff level place).mpr clamped)
    · exact fun same => if_neg ((openClamp_iff level place).not.mpr same)

end Sys2Proof.Machine
end

section
/-! PROOF. The Route Table's own events: hold timers and pass reports (R28 to R31, R40 to R44). -/
namespace Sys2Proof.Machine

/-! ### Hold timers (R40) -/

/-- A sound route's hold timer is never at 0. -/
theorem Route.expires_iff {r : Route} (sound : r.sound) : expiresNext r.holdLeft = true ↔ r.holdLeft = some 1 := by
  obtain ⟨-, -, -, -, -, -, -, timer⟩ := sound
  cases left : r.holdLeft with
  | none => exact ⟨nofun, nofun⟩
  | some n =>
    obtain ⟨positive, -⟩ := timer n left
    rw [expiresNext, decide_eq_true_iff, Option.some.injEq]
    omega

theorem Route.held_eq {r : Route} (sound : r.sound) :
    r.held =
      if r.holdLeft = some 1 then { r with state := .closing, cause := some .expired, holdLeft := none }
      else { r with holdLeft := r.holdLeft.map (· - 1) } := by
  have timer := Route.expires_iff sound
  unfold Route.held
  split
  · next expires =>
    rw [if_pos (timer.mp expires)]
    rfl
  · next runs =>
    rw [if_neg (timer.not.mp runs)]
    rcases countDown_cases r.holdLeft with ⟨stopped, counted, -⟩ | ⟨_, -, -, -, expires⟩ | ⟨n, left, -, counted, -⟩
    · rw [counted, stopped]
      rfl
    · exact absurd expires runs
    · rw [counted, left]
      rfl

theorem Slot.holdExpires_eq (slot : Slot) :
    slot.holdExpires = slot.route.any fun r => expiresNext r.holdLeft := by
  rw [Slot.holdExpires]
  cases slot.route <;> rfl

/-- Notices of the slots of a table that keeps owners and generations are those of the table before. -/
theorem Raised.of_kept {s t : State} {k : Notice} {l : List SlotId} {a b : Vector NoticeSet 4}
    (owners : ∀ i : SlotId, (t.routeAt i).map Route.owner = (s.routeAt i).map Route.owner)
    (gens : ∀ i : SlotId, (t.table.slots[i]).gen = (s.table.slots[i]).gen) (h : Raised t k (t.ownedBy l) a b) :
    Raised s k (s.ownedBy l) a b := by
  have owned : t.ownedBy l = s.ownedBy l := by
    funext lane
    refine List.filter_congr fun i _ => ?_
    have any_owner (o : Option Route) :
        (o.any fun r => decide (r.owner = lane)) = (o.map Route.owner).any fun owner => decide (owner = lane) := by
      cases o <;> rfl
    rw [any_owner, any_owner, owners]
  have handle : t.handleAt = s.handleAt := by
    funext i
    rw [State.handleAt, State.handleAt, gens]
  rw [owned] at h
  intro lane
  obtain ⟨kinds, latest⟩ := h lane
  rw [handle] at latest
  exact ⟨kinds, latest⟩

/-- The Route Table's millisecond event: every hold timer counts, and EXPIRED is raised for those that run out. -/
theorem State.holdMillisecond_law {s : State} (inv : TableInv s) :
    ∃ slots ns,
      s.holdMillisecond = { s with table := { s.table with slots := slots }, link := { s.link with notices := ns } }
      ∧ (∀ i : SlotId, (slots[i]).gen = (s.table.slots[i]).gen ∧ (slots[i]).route = (s.routeAt i).map Route.held)
      ∧ Raised s .expired
          (s.ownedBy (s.table.order.filter fun i => (s.routeAt i).any fun r => decide (r.holdLeft = some 1)))
          s.link.notices ns := by
  obtain ⟨-, -, records, -⟩ := inv
  obtain ⟨slots, hslots⟩ : ∃ slots, slots = Vector.ofFn fun i : SlotId => (s.table.slots[i]).countHold := ⟨_, rfl⟩
  have entry (i : SlotId) : (slots[i]).gen = (s.table.slots[i]).gen
      ∧ (slots[i]).route = (s.routeAt i).map Route.held := by
    rw [hslots, ofFn_get, Slot.countHold_eq]
    exact ⟨rfl, rfl⟩
  have expiring : (fun i : SlotId => (s.table.slots[i]).holdExpires) =
      fun i => (s.routeAt i).any fun r => decide (r.holdLeft = some 1) := by
    funext i
    rw [Slot.holdExpires_eq, ← State.routeAt]
    cases slot : s.routeAt i with
    | none => rfl
    | some r =>
      rw [Option.any_some, Option.any_some, Bool.eq_iff_iff, decide_eq_true_iff]
      exact Route.expires_iff (records i r slot).2
  obtain ⟨l, hl⟩ : ∃ l, l = s.table.order.filter fun i => (s.routeAt i).any fun r => decide (r.holdLeft = some 1) :=
    ⟨_, rfl⟩
  have counted : s.holdMillisecond =
      ({ s with table := { s.table with slots := slots } } : State).raiseFor .expired l := by
    rw [State.holdMillisecond, expiring, ← hl, ← hslots]
  obtain ⟨ns, e, -⟩ := State.raiseFor_frame .expired l { s with table := { s.table with slots := slots } }
  have raised := State.raiseFor_raised .expired l { s with table := { s.table with slots := slots } }
  rw [e] at counted raised
  refine ⟨slots, ns, counted, entry, hl ▸ Raised.of_kept (fun i => ?_) (fun i => (entry i).1) raised⟩
  rw [State.routeAt, (entry i).2, Option.map_map]
  congr 1
  funext r
  exact r.held_owner

theorem State.expireHold_law {s : State} {i : SlotId} {r : Route} (slot : s.routeAt i = some r) :
    s.expireHold i =
      withRoute s i (r.closing .expired)
        { s.link with notices := noticed s.link.notices r.owner .expired (some (s.handleAt i)) } := by
  have closed : (s.setRoute i (some (r.closing .expired))).routeAt i = some (r.closing .expired) := by
    rw [State.setRoute_routeAt, if_pos rfl]
  rw [State.expireHold, slot]
  dsimp only
  rw [State.raiseFor_cons_some _ _ _ _ _ closed, State.setRoute_handleAt, State.raise_noticed]
  rfl

/-- Settles O33: every timer's count, and one timer's expiry by what is left of it. -/
theorem holdTimersExpireIntoClosing : Obligations.HoldTimersExpireIntoClosing := by
  refine ⟨fun s awake inv => ?event, fun s i awake => ⟨fun free => ?_, fun r slot => ⟨fun last => ?_, fun more => ?_⟩⟩⟩
  case event =>
    have records := inv.2.2.1
    obtain ⟨slots, ns, counted, entry, raised⟩ := State.holdMillisecond_law inv
    refine ⟨_, (guarded_taken awake).trans (congrArg _ counted), rfl, fun i => ⟨(entry i).1, ?_⟩, raised⟩
    refine (entry i).2.trans ?_
    cases slot : s.routeAt i with
    | none => rfl
    | some r => exact congrArg some (Route.held_eq (records i r slot).2)
  all_goals
    refine (guarded_taken awake).trans ?_
    rw [Slot.holdExpires_eq, ← State.routeAt]
  · rw [free]
    rfl
  · rw [slot, Option.any_some, last]
    exact congrArg _ (State.expireHold_law slot)
  · rw [slot, Option.any_some]
    cases left : r.holdLeft with
    | none => rfl
    | some n =>
      rw [expiresNext_large (more n left)]
      rfl

/-! ### The pass report (R28, R29, R31, R44) -/

/-- In a sound table a report names a route by the handle its slot shows. -/
theorem State.named_iff {s : State} (inv : TableInv s) (l : List Handle) (st : RouteState) (i : SlotId) :
    (∃ h ∈ l, h.slot = i ∧ s.stillIn h st = true) ↔
      ∃ r, s.routeAt i = some r ∧ r.state = st ∧ s.handleAt i ∈ l := by
  obtain ⟨-, -, records, -⟩ := inv
  constructor
  · rintro ⟨h, mem, rfl, still⟩
    obtain ⟨r, slot, handle, -, state⟩ := (State.stillIn_iff _ _ _).mp still
    exact ⟨r, slot, state, handle ▸ mem⟩
  · rintro ⟨r, slot, state, mem⟩
    exact ⟨_, mem, rfl, (State.stillIn_iff _ _ _).mpr ⟨r, slot, rfl, (records i r slot).1, state⟩⟩

theorem State.mem_silentSlots_iff {s : State} (inv : TableInv s) (l : List Handle) (i : SlotId) :
    i ∈ s.silentSlots l ↔ ∃ r, s.routeAt i = some r ∧ r.state = .closing ∧ s.handleAt i ∈ l := by
  rw [State.mem_silentSlots, State.named_iff inv]
  refine and_iff_right_of_imp ?_
  rintro ⟨r, slot, -⟩
  obtain ⟨-, listed, -⟩ := inv
  rw [listed, slot]
  rfl

theorem State.silentSlots_eq {s : State} (inv : TableInv s) (l : List Handle) :
    s.silentSlots l = s.table.order.filter fun i =>
      (s.routeAt i).any fun r => decide (r.state = .closing ∧ s.handleAt i ∈ l) := by
  refine List.filter_congr fun i mem => ?_
  have silent := State.mem_silentSlots_iff inv l i
  rw [State.silentSlots, List.mem_filter, and_iff_right mem] at silent
  rw [Bool.eq_iff_iff, silent, Option.any_eq_true]
  simp only [decide_eq_true_iff]

/-- The table after a report is taken, slot by slot, and the notices of what it frees (R28, R29, R31). -/
structure ReportTaken (s : State) (rep : PassReport) (slots : Vector Slot 32) (spill : Vector Bool 32)
    (ns : Vector NoticeSet 4) : Prop where
  gen : ∀ i : SlotId, (slots[i]).gen = (s.table.slots[i]).gen
  free : ∀ i : SlotId, s.routeAt i = none → (slots[i]).route = none ∧ spill[i] = s.prec.spill[i]
  settled : ∀ (i : SlotId) (r : Route), s.routeAt i = some r → r.state = .opening → s.handleAt i ∈ rep.settled →
    (slots[i]).route = some { r with state := .live } ∧ spill[i] = s.prec.spill[i]
  freed : ∀ (i : SlotId) (r : Route), s.routeAt i = some r → r.state = .closing → s.handleAt i ∈ rep.silent →
    (slots[i]).route = none ∧ spill[i] = false
  kept : ∀ (i : SlotId) (r : Route), s.routeAt i = some r →
    ¬(r.state = .opening ∧ s.handleAt i ∈ rep.settled) → ¬(r.state = .closing ∧ s.handleAt i ∈ rep.silent) →
    (slots[i]).route = some r ∧ spill[i] = s.prec.spill[i]
  raised : Raised s .freed
    (s.ownedBy (s.table.order.filter fun i =>
      (s.routeAt i).any fun r => decide (r.state = .closing ∧ s.handleAt i ∈ rep.silent)))
    s.link.notices ns

/-- Taking a report from a sound table: what it names is settled and freed, the order list keeps what is left,
and then LEAVING may end. -/
theorem State.takeReport_taken {s : State} {rep : PassReport} (inv : TableInv s) (hrep : s.table.report = some rep) :
    ∃ u slots spill ns,
      s.takeReport = u.leaveIfEmpty
      ∧ u =
        { s with
          table := { s.table with
            slots := slots, order := s.table.order.filter fun i => (slots[i]).route.isSome
            report := none }
          prec := { s.prec with spill := spill }
          link := { s.link with notices := ns } }
      ∧ ReportTaken s rep slots spill ns := by
  obtain ⟨slots, spill, ns, taken, entry, raised⟩ := State.takeReport_law hrep
  have left (i : SlotId) (mem : i ∈ s.table.order) :
      decide (i ∉ s.silentSlots rep.silent) = (slots[i]).route.isSome := by
    obtain ⟨r, slot⟩ := Option.isSome_iff_exists.mp ((inv.2.1 i).mp mem)
    obtain ⟨-, route, -⟩ := entry i
    rw [route]
    by_cases silent : i ∈ s.silentSlots rep.silent
    · rw [if_pos silent, decide_eq_false (not_not.mpr silent)]
      rfl
    · rw [if_neg silent, decide_eq_true silent, slot]
      split <;> rfl
  rw [List.filter_congr left] at taken
  rw [State.silentSlots_eq inv] at raised
  simp only [State.mem_silentSlots_iff inv, State.named_iff inv] at entry
  refine ⟨_, slots, spill, ns, taken, rfl, fun i => (entry i).1, fun i slot => ?_, fun i r slot state named => ?_,
    fun i r slot state named => ?_, fun i r slot stays runs => ?_, raised inv.1⟩
  all_goals
    obtain ⟨-, route, flag⟩ := entry i
    rw [route, flag, slot]
  · simp
  · simp [state, named]
  · simp [state, named]
  · simp [stays, runs]

/-- Settles O34: the report as one change of the table, and whether LEAVING ends with it. -/
theorem reportsSettleAndFreeRoutes : Obligations.ReportsSettleAndFreeRoutes := by
  refine ⟨fun s absent => ?_, fun s rep awake inv hrep => ?_⟩
  · show (if s.pins.rstAsserted = true then _ else _) = _
    rw [State.takeReport_none absent, ite_self]
  obtain ⟨u, slots, spill, ns, taken, hu, law⟩ := State.takeReport_taken inv hrep
  have executed : exec .passReport s = .next u.leaveIfEmpty :=
    (guarded_taken awake).trans (congrArg Host.Outcome.next taken)
  have slotwise (i : SlotId) := And.intro (law.gen i) (And.intro (law.free i)
    fun r slot => And.intro (law.settled i r slot) (And.intro (law.freed i r slot) (law.kept i r slot)))
  have emptied (none_left : s.table.order.filter (fun i => (slots[i]).route.isSome) = []) (i : SlotId) :
      (slots[i]).route = none := by
    cases slot : s.routeAt i with
    | none => exact (law.free i slot).1
    | some r =>
      have mem := (inv.2.1 i).mpr (Option.isSome_iff_exists.mpr ⟨r, slot⟩)
      exact Option.not_isSome_iff_eq_none.mp (List.filter_eq_nil_iff.mp none_left i mem)
  rcases u.leaveIfEmpty_cases with ⟨leaving, empty, left⟩ | ⟨stays, left⟩
  · rw [hu] at leaving empty
    have listless : s.table.order.filter (fun i => (slots[i]).route.isSome) = [] :=
      List.filter_eq_nil_iff.mpr fun i _ => Option.not_isSome_iff_eq_none.mpr (empty i)
    rw [left, State.endLeaving, State.raise_noticed, hu] at executed
    refine ⟨_, executed, rfl, slotwise, rfl, ns, law.raised, fun _ _ => ⟨rfl, rfl, rfl⟩, fun h => ?_⟩
    exact absurd h (not_or.mpr ⟨not_not.mpr leaving, not_not.mpr listless⟩)
  · rw [left, hu] at executed
    rw [hu] at stays
    refine ⟨_, executed, rfl, slotwise, rfl, ns, law.raised, fun leaving none_left => ?_, fun _ => ⟨rfl, rfl, rfl⟩⟩
    exact absurd ⟨leaving, emptied none_left⟩ stays

end Sys2Proof.Machine
end

section
/-! PROOF. SET_MODE: what each of its four actions does in each mode, and the forced closing of SETUP in RUN. -/
namespace Sys2Proof.Machine

theorem exec_setModeRun (w : Window) (s : State) :
    exec (.setModeRun w) s = .next (s.request .setMode w takeSetMode) := rfl

theorem exec_setModeSetup (w : Window) (s : State) :
    exec (.setModeSetup w) s = .next (s.request .setMode w takeSetMode) := rfl

theorem exec_hushOn (w : Window) (s : State) : exec (.hushOn w) s = .next (s.request .setMode w takeSetMode) := rfl

theorem exec_hushOff (w : Window) (s : State) : exec (.hushOff w) s = .next (s.request .setMode w takeSetMode) := rfl

/-! ### The outcomes of SET_MODE by its action (R168) -/

section
variable {u : State} {fs : List Field} (lane : LaneId)

theorem takeSetMode_run (action : natField fs 0x13#8 = some 0) : takeSetMode lane fs u = u.setModeRun := by
  rw [takeSetMode, action]
  rfl

theorem takeSetMode_setup (action : natField fs 0x13#8 = some 1) : takeSetMode lane fs u = u.setModeSetup := by
  rw [takeSetMode, action]
  rfl

theorem takeSetMode_host {present : Bool} (action : natField fs 0x13#8 = some (if present then 2 else 3)) :
    takeSetMode lane fs u = u.setHost present := by
  cases present <;> rw [takeSetMode, action] <;> rfl

theorem takeSetMode_badarg (unknown : ∀ a, natField fs 0x13#8 = some a → 3 < a) :
    takeSetMode lane fs u = (u, .plain .badarg) := by
  rw [takeSetMode]
  cases action : natField fs 0x13#8 with
  | none => rfl
  | some a =>
    match a, unknown a action with
    | a + 4, _ => rfl

end

theorem State.setModeRun_setup {u : State} (mode : u.ctl.mode = .setup) :
    u.setModeRun =
      ({ u with
          ctl := { u.ctl with mode := .run }
          link := { u.link with notices := noticed u.link.notices 0 .mode none } }, .plain .done) := by
  rw [State.setModeRun, mode]
  dsimp only
  rw [State.raise_noticed]

theorem State.setModeRun_run {u : State} (mode : u.ctl.mode = .run) : u.setModeRun = (u, .plain .done) := by
  rw [State.setModeRun, mode]

theorem State.setModeRun_leaving {u : State} (mode : u.ctl.mode = .leaving) :
    u.setModeRun = (u, .plain .busy) := by
  rw [State.setModeRun, mode]

theorem State.setModeSetup_run {u : State} (mode : u.ctl.mode = .run) :
    u.setModeSetup =
      (({ u with ctl := { u.ctl with mode := .leaving } } : State).forceAll.leaveIfEmpty, .plain .done) := by
  rw [State.setModeSetup, mode]

theorem State.setModeSetup_still {u : State} (mode : u.ctl.mode = .setup ∨ u.ctl.mode = .leaving) :
    u.setModeSetup = (u, .plain .done) := by
  rcases mode with mode | mode <;> rw [State.setModeSetup, mode]

theorem State.setHost_taken {u : State} (mode : u.ctl.mode = .run ∨ u.ctl.mode = .leaving) (present : Bool) :
    u.setHost present = ({ u with ctl := { u.ctl with host := present } }, .plain .done) := by
  rcases mode with mode | mode <;> rw [State.setHost, mode]

theorem State.setHost_setup {u : State} (mode : u.ctl.mode = .setup) (present : Bool) :
    u.setHost present = (u, .plain .mode) := by
  rw [State.setHost, mode]

/-- Settles O11, by the action and the mode. -/
theorem setModeActsByItsAction : Obligations.SetModeActsByItsAction := by
  refine ⟨headLaneOnly_of_headOnly rfl exec_setModeRun, headLaneOnly_of_headOnly rfl exec_setModeSetup,
    headLaneOnly_of_headOnly rfl exec_hushOn, headLaneOnly_of_headOnly rfl exec_hushOff, fun s w fs u ha =>
      ⟨fun action => ?run, fun action mode => ?setup, fun present action => ?hush, fun unknown => ?_⟩⟩
  case run =>
    have outcome := takeSetMode_run (u := u) w.lane action
    refine ⟨fun mode => ?_, fun mode => ?_, fun mode => ?_⟩
    · exact exec_plain (exec_setModeRun w s) ha (outcome.trans (State.setModeRun_setup mode))
    · exact exec_plain (exec_setModeRun w s) ha (outcome.trans (State.setModeRun_run mode))
    · exact exec_plain (exec_setModeRun w s) ha (outcome.trans (State.setModeRun_leaving mode))
  case setup =>
    exact exec_plain (exec_setModeSetup w s) ha
      ((takeSetMode_setup w.lane action).trans (State.setModeSetup_still mode))
  case hush =>
    have outcome := takeSetMode_host (u := u) w.lane action
    have request : exec (if present then Instr.hushOn w else Instr.hushOff w) s =
        .next (s.request .setMode w takeSetMode) := by
      cases present
      · exact exec_hushOff w s
      · exact exec_hushOn w s
    exact ⟨fun mode => exec_plain request ha (outcome.trans (State.setHost_taken mode present)),
      fun mode => exec_plain request ha (outcome.trans (State.setHost_setup mode present))⟩
  · exact exec_plain (exec_setModeRun w s) ha (takeSetMode_badarg w.lane unknown)

/-! ### SETUP in RUN (R43, R44, R170, R171) -/

/-- With no slot named, nothing is raised. -/
theorem Raised.none_named {s : State} {k : Notice} {mine : LaneId → List SlotId} {a b : Vector NoticeSet 4}
    (h : Raised s k mine a b) (unnamed : ∀ lane, mine lane = []) : b = a := by
  refine vector_ext fun lane => ?_
  obtain ⟨kinds, latest⟩ := h lane
  rw [unnamed, List.getLast?_nil, Option.map_none, Option.none_or] at latest
  have same : (b[lane]).kinds = (a[lane]).kinds := by
    refine vector_ext fun n => ?_
    rw [Bool.eq_iff_iff, kinds, unnamed]
    simp
  rw [NoticeSet.mk.injEq]
  exact ⟨same, latest⟩

theorem State.leave_law (u : State) :
    ∃ slots ns t,
      ({ u with ctl := { u.ctl with mode := .leaving } } : State).forceAll = t
      ∧ t = { u with
          ctl := { u.ctl with mode := .leaving }
          table := { u.table with slots := slots }
          link := { u.link with notices := ns } }
      ∧ (∀ i : SlotId, (slots[i]).gen = (u.table.slots[i]).gen
        ∧ (slots[i]).route = (u.routeAt i).map Route.forced)
      ∧ Raised u .forced
          (u.ownedBy (u.table.order.filter fun i => (u.routeAt i).any fun r => decide (r.state ≠ .closing)))
          u.link.notices ns := by
  obtain ⟨slots, ns, forced, entry, raised⟩ := State.forceAll_law { u with ctl := { u.ctl with mode := .leaving } }
  exact ⟨slots, ns, _, forced, rfl, entry, Raised.of_kept (fun _ => rfl) (fun _ => rfl) raised⟩

/-- Settles O12: forced closing as one change of the table, and whether LEAVING ends at once. -/
theorem setModeSetupForcesEveryRoute : Obligations.SetModeSetupForcesEveryRoute := by
  intro s w fs u ha action mode
  obtain ⟨slots, ns, t, forced, ht, entry, raised⟩ := u.leave_law
  have outcome := (takeSetMode_setup w.lane action).trans (State.setModeSetup_run mode)
  rw [forced] at outcome
  have executed := exec_plain (exec_setModeSetup w s) ha outcome
  have routes (i : SlotId) : t.routeAt i = (u.routeAt i).map Route.forced := by
    rw [ht]
    exact (entry i).2
  rcases t.leaveIfEmpty_cases with ⟨-, empty, left⟩ | ⟨stays, left⟩
  · have none_left (i : SlotId) : u.routeAt i = none := Option.map_eq_none_iff.mp ((routes i).symm.trans (empty i))
    have unnamed : ns = u.link.notices := raised.none_named fun lane => by
      simp [State.ownedBy, none_left]
    rw [left, State.endLeaving, State.raise_noticed, ht, unnamed] at executed
    refine ⟨_, executed, rfl, entry, fun ⟨i, present⟩ => ?_, fun _ => ⟨rfl, rfl, rfl⟩⟩
    rw [none_left i] at present
    cases present
  · rw [left, ht] at executed
    refine ⟨_, executed, rfl, entry, fun _ => ⟨rfl, rfl, raised⟩, fun none_left => ?_⟩
    refine absurd ⟨by rw [ht], fun i => ?_⟩ stays
    rw [routes, none_left i, Option.map_none]

end Sys2Proof.Machine
end

section
/-! PROOF. The Link Interface's own requests and windows: limits and cut answers, GET_STATUS and GET_NOTICES, NULL
and the window start, and the link checks in their order (10_control_link.md). -/
namespace Sys2Proof.Machine

/-! ### SET_LIMIT and cut answers (R186, R187) -/

theorem exec_setLimit (w : Window) (s : State) : exec (.setLimit w) s = .next (s.request .setLimit w takeSetLimit) := rfl

theorem takeSetLimit_badarg {fs : List Field} (h : natField fs 0x16#8 = none) (lane : LaneId) (u : State) :
    takeSetLimit lane fs u = (u, .plain .badarg) := by
  rw [takeSetLimit, h]

theorem takeSetLimit_written {fs : List Field} {v : Nat} (value : natField fs 0x16#8 = some v) (lane : LaneId)
    (u : State) :
    takeSetLimit lane fs u =
      ({ u with link := { u.link with limits := upd u.link.limits lane fun _ => max 8 (min v 508) } },
        .taken (decide (v < 8 ∨ 508 < v))) := by
  have changed : max 8 (min v 508) ≠ v ↔ v < 8 ∨ 508 < v := by omega
  simp only [takeSetLimit, value, clampNat_eq (show 8 ≤ 508 by decide), changed]

/-- Settles O10: the limit's clamp, its values after the resets and in STANDBY, and the cut of an answer. -/
theorem limitsBoundTheAnswers : Obligations.LimitsBoundTheAnswers := by
  refine ⟨⟨fun s w fs u ha => ⟨fun h => ?_, fun v value => ?_⟩, fun lines s t h lane => ?reset,
    fun crank awarn s t h => ?standby⟩, fun a limit room => ?cut⟩
  · exact exec_plain (exec_setLimit w s) ha (takeSetLimit_badarg h _ u)
  · exact exec_taken (exec_setLimit w s) ha (takeSetLimit_written value _ u) decide_eq_true_iff
  case reset =>
    rcases h with h | h <;> cases h <;> exact replicate_get _ lane
  case standby =>
    have e : exec (.entryToStandby crank awarn) s = execEntryToStandby crank awarn s := rfl
    rw [e, execEntryToStandby] at h
    split at h
    · cases h
      rfl
    · split at h <;> cases h <;> rfl
  case cut =>
    obtain ⟨n, bound, payload, within, next⟩ := a.payload_law room
    refine ⟨n, bound, within, fun whole => ?_, fun more => ⟨?_, next more⟩⟩
    · rw [payload, decide_eq_false (by omega)]
      rfl
    · rw [payload, decide_eq_true more]
      rfl

/-! ### GET_STATUS and GET_NOTICES (R190, R191) -/

theorem exec_getStatus (w : Window) (s : State) :
    exec (.getStatus w) s = .next (s.request .getStatus w takeGetStatus) := rfl

theorem exec_getNotices (w : Window) (s : State) :
    exec (.getNotices w) s = .next (s.request .getNotices w takeGetNotices) := rfl

/-- The bytes of a GET_STATUS answer in their layout. -/
theorem State.statusItems_flatten (u : State) :
    u.statusItems.flatten =
      [u.ctl.mode.code, u.hushByte, flagByte u.link.overrun,
        (match u.link.capture with | none => 0xFF#8 | some bs => byte bs.length)]
      ++ ((u.link.capture.getD []) ++ [0#8, 0#8, 0#8, 0#8]).take 4
      ++ [byte u.link.laterErrors, flagByte u.prot.summary, u.mixer.clock.code, u.speed.freshness.code]
      ++ le16 u.speed.reported ++ le16 u.speed.effective
      ++ u.prot.ports.toList.map (fun p => p.state.code)
      ++ u.prot.speakers.toList.map SpeakerProt.byte := by
  have speakers : (u.prot.speakers.toList.map fun p => [p.byte]).flatten = u.prot.speakers.toList.map SpeakerProt.byte :=
    List.flatMap_pure_eq_map ..
  rw [State.statusItems, List.flatten_append, speakers]
  cases u.link.capture <;>
    simp only [List.flatten_cons, List.flatten_nil, List.append_nil, List.append_assoc, Option.getD_none,
      Option.getD_some] <;> rfl

/-- The status layout is 43 bytes long. -/
theorem State.statusItems_length (u : State) : u.statusItems.flatten.length = 43 := by
  have capture : (((u.link.capture.getD []) ++ [0#8, 0#8, 0#8, 0#8]).take 4).length = 4 := by
    rw [List.length_take, List.length_append]
    exact Nat.min_eq_left (Nat.le_add_left ..)
  rw [State.statusItems_flatten]
  simp only [List.length_append, capture, List.length_map, Vector.length_toList, le16, List.length_cons, List.length_nil]

/-- The number of a list of flags: its bits are they. -/
theorem NoticeSet.testBit_leBits (l : List Bool) (n : Nat) :
    (NoticeSet.kindBytes.leBits l).testBit n = l.getD n false := by
  induction l generalizing n with
  | nil => simp [NoticeSet.kindBytes.leBits]
  | cons b rest ih =>
    rw [NoticeSet.kindBytes.leBits]
    cases n with
    | zero =>
      rw [Nat.testBit_zero, List.getD_cons_zero]
      cases b <;> simp
    | succ m =>
      have half : ((if b then 1 else 0) + 2 * NoticeSet.kindBytes.leBits rest) / 2 = NoticeSet.kindBytes.leBits rest := by
        split <;> omega
      rw [Nat.testBit_succ, half, ih, List.getD_cons_succ]

/-- Two bytes, low byte first, hold the lower 16 bits of their number. -/
theorem le16_bits (n : Nat) {j : Nat} (h : j < 16) :
    (BitVec.ofNat 8 (n / 256) ++ BitVec.ofNat 8 n).getLsbD j = n.testBit j := by
  have high : n / 256 = n / 2 ^ 8 := rfl
  rw [BitVec.getLsbD_append, BitVec.getLsbD_ofNat, BitVec.getLsbD_ofNat, high, Nat.testBit_div_two_pow]
  split
  · next low => simp [low]
  · next low =>
    have within : j - 8 < 8 := by omega
    have place : j - 8 + 8 = j := by omega
    simp [within, place]

theorem NoticeSet.items_flatten (ns : NoticeSet) :
    ns.items.flatten =
      ns.kindBytes ++ (match ns.latest with
        | some h => [1#8, byte h.slot.val, h.gen]
        | none => [0#8, 0#8, 0#8]) := by
  rw [NoticeSet.items]
  cases ns.latest <;> rfl

/-- Settles O9: the layouts of the two reports, each within the limit that its clause names. -/
theorem statusAndNoticesAreReported : Obligations.StatusAndNoticesAreReported := by
  refine ⟨fun s w fs u ha => ⟨?_, fun room => ?_⟩, fun s w fs u ha room => ?notices⟩
  · have answered := exec_answered (exec_getStatus w s) ha (v := if w.lane = 0 then u.clearLinkErrors else u)
      (a := ⟨.done, u.statusItems⟩) rfl
    rw [answered]
    split <;> rfl
  · rw [Answer.payload_whole (by rw [State.statusItems_length]; exact room), State.statusItems_flatten]
    rfl
  case notices =>
    have answered := exec_answered (exec_getNotices w s) ha (a := ⟨.done, (u.link.notices[w.lane]).items⟩) rfl
    have length : (u.link.notices[w.lane]).items.flatten.length = 5 := by
      rw [NoticeSet.items_flatten]
      cases (u.link.notices[w.lane]).latest <;> rfl
    rw [Answer.payload_whole (by rw [length]; exact room), NoticeSet.items_flatten] at answered
    refine ⟨_, _, answered, fun n => ?_, fun n high => ?_⟩
    · rw [le16_bits _ (by omega), NoticeSet.testBit_leBits]
      simp
    · by_cases within : n < 16
      · rw [le16_bits _ within, NoticeSet.testBit_leBits]
        simp [high]
      · exact BitVec.getLsbD_of_ge _ _ (by omega)

end Sys2Proof.Machine
end

section
/-! PROOF. Packet windows: what a window's start fixes, what NULL clocks out, and the link checks in their order
(R177 to R183, R185, R188). -/
namespace Sys2Proof.Machine

/-! ### The window start (R177, R188) -/

theorem State.takesPackets_iff (s : State) :
    s.takesPackets = true ↔ s.pins.rstAsserted = false ∧ s.ctl.mode ≠ .standby := by
  rw [State.takesPackets, Bool.and_eq_true, Bool.not_eq_true', decide_eq_true_iff]

/-- Eight flags in a byte, bits 7 to 0. -/
theorem flags_getLsbD (b7 b6 b5 b4 b3 b2 b1 b0 : Bool) :
    let byte : Byte := BitVec.ofBool b7 ++ BitVec.ofBool b6 ++ BitVec.ofBool b5 ++ BitVec.ofBool b4
      ++ BitVec.ofBool b3 ++ BitVec.ofBool b2 ++ BitVec.ofBool b1 ++ BitVec.ofBool b0
    byte.getLsbD 7 = b7 ∧ byte.getLsbD 6 = b6 ∧ byte.getLsbD 5 = b5 ∧ byte.getLsbD 4 = b4
    ∧ byte.getLsbD 3 = b3 ∧ byte.getLsbD 2 = b2 ∧ byte.getLsbD 1 = b1 ∧ byte.getLsbD 0 = b0 := by
  simp only [BitVec.getLsbD_append, BitVec.getLsbD_ofBool]
  simp

theorem State.statusByte_getLsbD (s : State) :
    s.statusByte.getLsbD 7 = s.flagResp ∧ s.statusByte.getLsbD 6 = s.flagNotice
    ∧ s.statusByte.getLsbD 5 = s.flagProtect ∧ s.statusByte.getLsbD 4 = s.flagStale
    ∧ s.statusByte.getLsbD 3 = s.flagClockLost ∧ s.statusByte.getLsbD 2 = s.link.linkErr
    ∧ s.statusByte.getLsbD 1 = s.link.overrun ∧ s.statusByte.getLsbD 0 = s.hushed :=
  flags_getLsbD ..

theorem State.flagResp_iff (s : State) : s.flagResp = true ↔ s.link.queue ≠ [] := by
  rw [State.flagResp, Bool.not_eq_true', List.isEmpty_eq_false_iff]

theorem State.flagNotice_iff (s : State) :
    s.flagNotice = true ↔ ∃ (lane : LaneId) (k : Fin 9), (s.link.notices[lane]).kinds[k] = true := by
  rw [State.flagNotice, toList_eq_map, List.any_map, List.any_eq_true]
  refine ⟨fun ⟨lane, _, stands⟩ => ⟨lane, ?_⟩, fun ⟨lane, k, stands⟩ => ⟨lane, List.mem_finRange lane, ?_⟩⟩
  · rw [Function.comp_apply, NoticeSet.nonEmpty, toList_eq_map, List.any_map, List.any_eq_true] at stands
    obtain ⟨k, -, bit⟩ := stands
    exact ⟨k, bit⟩
  · rw [Function.comp_apply, NoticeSet.nonEmpty, toList_eq_map, List.any_map, List.any_eq_true]
    exact ⟨k, List.mem_finRange k, stands⟩

/-- ATTN_N is low outside reset and STANDBY while one of five flags stands. -/
theorem State.attnLow_iff (s : State) :
    s.attnLow = true ↔
      s.pins.rstAsserted = false ∧ s.ctl.mode ≠ .standby
      ∧ ∃ n : Fin 8, n ∈ [7, 6, 5, 2, 1] ∧ s.statusByte.getLsbD n.val = true := by
  obtain ⟨resp, notice, protect, -, -, err, overrun, -⟩ := s.statusByte_getLsbD
  have flags : (∃ n : Fin 8, n ∈ [7, 6, 5, 2, 1] ∧ s.statusByte.getLsbD n.val = true) ↔
      (s.flagResp || s.flagNotice || s.flagProtect || s.link.linkErr || s.link.overrun) = true := by
    rw [← resp, ← notice, ← protect, ← err, ← overrun]
    simp [or_assoc]
  rw [State.attnLow, flags, Bool.and_eq_true, Bool.and_eq_true, Bool.not_eq_true', decide_eq_true_iff, and_assoc]

theorem exec_packetWindowBegin (s : State) : exec .packetWindowBegin s = execPacketWindowBegin s := rfl

/-- Settles O6: the window start where packets are taken and elsewhere, the byte's bits, and untaken packets. -/
theorem windowStartFixesStatusAndHead : Obligations.WindowStartFixesStatusAndHead := by
  refine ⟨⟨fun s idle awake on => ?_, fun s idle off => ?_, fun s => ?bits⟩, fun c s packet off => ?_⟩
  · rw [exec_packetWindowBegin, execPacketWindowBegin, idle]
    exact if_pos (s.takesPackets_iff.mpr ⟨awake, on⟩)
  · rw [exec_packetWindowBegin, execPacketWindowBegin, idle]
    refine if_neg fun taken => ?_
    obtain ⟨awake, on⟩ := s.takesPackets_iff.mp taken
    rcases off with reset | standby
    · rw [awake] at reset
      cases reset
    · exact on standby
  case bits =>
    obtain ⟨resp, notice, protect, stale, lost, err, overrun, hush⟩ := s.statusByte_getLsbD
    refine ⟨?_, ?_, by rw [protect, State.flagProtect], ?_, ?_, by rw [err], by rw [overrun], ?_, s.attnLow_iff⟩
    · rw [resp, State.flagResp_iff]
    · rw [notice, State.flagNotice_iff]
    · rw [stale, State.flagStale, decide_eq_true_iff]
    · rw [lost, State.flagClockLost, decide_eq_true_iff]
    · rw [hush, State.hushed, Bool.or_eq_true]
  · exact packet_untaken packet (State.windowFixed_of_untaken off)

/-! ### NULL (R177, R180, R185) -/

theorem exec_null (w : Window) (s : State) :
    exec (.null w) s = .next (s.takeWindow (4 + w.body.length) fun s => s) := rfl

theorem Response.bytes_length (r : Response) : r.bytes.length = r.payload.length + 6 := by
  simp [Response.bytes, headerBytes]

theorem sdoBytes_length (status : Byte) (head : Option Response) (n : Nat) : (sdoBytes status head n).length = n := by
  simp [sdoBytes]
  omega

theorem padded_getElem? (out : List Byte) {n j : Nat} (h : j < n) :
    ((out ++ List.replicate (n - out.length) 0#8).take n)[j]? = some (out.getD j 0#8) := by
  rw [List.getElem?_take_of_lt h, List.getElem?_append, List.getD_eq_getElem?_getD]
  split
  · next said => rw [List.getElem?_eq_getElem said, Option.getD_some]
  · next silent =>
    rw [List.getElem?_replicate_of_lt (by omega), List.getElem?_eq_none (by omega), Option.getD_none]

/-- Bytes beyond what a window has to say are 0x00 (R185). -/
theorem sdoBytes_getElem? (status : Byte) (head : Option Response) {n j : Nat} (h : j < n) :
    (sdoBytes status head n)[j]? =
      some ((status :: (match head with | some r => r.bytes | none => [])).getD j 0#8) := by
  exact padded_getElem? _ h

/-- Settles O7: the bytes clocked out, and the head's removal by the window's length. -/
theorem nullDeliversTheHeadResponse : Obligations.NullDeliversTheHeadResponse := by
  intro s w status head awake on start
  have taken : s.windowFixed = some (status, head) := by
    rw [State.windowFixed, if_pos (s.takesPackets_iff.mpr ⟨awake, on⟩)]
    rcases start with active | ⟨idle, rfl, rfl⟩
    · rw [active]
    · rw [idle]
      rfl
  have executed := (exec_null w s).trans
    (congrArg Host.Outcome.next (State.takeWindow_of_opens ⟨_, taken, rfl⟩ fun s => s))
  refine ⟨_, _, executed, sdoBytes_length .., fun j within => ?_, fun r sent whole => ?_, fun r sent cut => ?_,
    fun absent => ?_⟩
  · rw [sdoBytes_length] at within
    exact sdoBytes_getElem? status head within
  · subst sent
    exact if_pos (decide_eq_true (by rw [Response.bytes_length]; omega))
  · subst sent
    exact if_neg (by rw [delivered, decide_eq_true_iff, Response.bytes_length]; omega)
  · subst absent
    rfl

/-! ### The link checks (R179 to R183) -/

theorem exec_headerFault (sdi : List Byte) (s : State) :
    exec (.headerFault sdi) s = .next (s.takeWindow sdi.length fun s => s.handleBytes sdi) := rfl

theorem exec_unknownKind (code : BitVec 6) (w : Window) (s : State) :
    exec (.unknownKind code w) s = .next (s.takeWindow (4 + w.body.length) fun s => s.handlePacket code w) := rfl

theorem readHeader_eq_none (sdi : List Byte) : readHeader sdi = none ↔ sdi[3]? ≠ some (crc8 (sdi.take 3)) := by
  match sdi with
  | [] | [_] | [_, _] | [_, _, _] => exact ⟨fun _ => nofun, fun _ => rfl⟩
  | b0 :: b1 :: b2 :: b3 :: rest =>
    have check : (b0 :: b1 :: b2 :: b3 :: rest)[3]? = some (crc8 ((b0 :: b1 :: b2 :: b3 :: rest).take 3)) ↔
        b3 = crc8 [b0, b1, b2] := Option.some_inj
    rw [Ne, check, readHeader]
    split
    · next sound => exact ⟨nofun, fun h => absurd sound h⟩
    · next faulty => exact ⟨fun _ => faulty, fun _ => rfl⟩

/-- A faulty header in a taken window is captured, or counted. -/
theorem exec_headerFault_captured {s u : State} {sdi : List Byte} (faulty : readHeader sdi = none)
    (ho : Opens s sdi.length u) : exec (.headerFault sdi) s = .next (u.captureFault sdi) := by
  rw [exec_headerFault, State.takeWindow_of_opens ho, State.handleBytes, faulty]

/-- A request in a taken window is handled by its kind. -/
theorem exec_commandOf_opens {s u : State} {k : Kind} {w : Window} (hk : k ≠ .null)
    (ho : Opens s (4 + w.body.length) u) : exec (commandOf k w) s = .next (u.handle k w (ownerOf k)) := by
  rw [exec_commandOf k w s hk, State.request, State.takeWindow_of_opens ho]

theorem State.handle_refused {u : State} {k : Kind} {w : Window} {r : Result} (h : u.admission k w = .refuse r)
    (owner : Owner) : u.handle k w owner = { u with link := u.replied k w (dataless r) } := by
  rw [State.handle, h]
  dsimp only
  rw [State.answer_eq, Answer.payload_plain, State.replied]

theorem State.handle_overrun {u : State} {k : Kind} {w : Window} (full : 8 ≤ u.link.queue.length) (owner : Owner) :
    u.handle k w owner = { u with link := { u.link with overrun := true } } := by
  rw [State.handle, State.admission_overrun full, State.overrun]

theorem exec_unknownKind_opens {s u : State} {code : BitVec 6} {w : Window} (unknown : Kind.ofCode code = none)
    (ho : Opens s (4 + w.body.length) u) : exec (.unknownKind code w) s = .next (u.handleUnknown code w) := by
  rw [exec_unknownKind, State.takeWindow_of_opens ho, State.handlePacket, unknown]

/-- Settles O8: faulty headers, then the checks of known kinds and of unknown ones. -/
theorem linkChecksStandInOrder : Obligations.LinkChecksStandInOrder := by
  refine ⟨⟨readHeader_eq_none, fun s sdi u faulty ho => ?header⟩, fun s k w u hk ho => ?known,
    fun s code w u unknown ho => ?unknown⟩
  case header =>
    rw [exec_headerFault_captured faulty ho, State.captureFault]
    refine ⟨fun empty => ?_, fun held captured => ?_⟩
    · rw [empty]
    · have count : (if u.link.laterErrors < 255 then u.link.laterErrors + 1 else 255) =
          min 255 (u.link.laterErrors + 1) := by split <;> omega
      rw [captured, count]
  case known =>
    rw [exec_commandOf_opens hk ho]
    refine ⟨fun full => ?_, fun room faulty => ?_, fun room sound closed => ?_, fun room sound may unread => ?_⟩
    · rw [State.handle_overrun full]
    · rw [State.handle_refused (State.admission_check room faulty)]
    · rw [State.handle_refused (State.admission_denied room sound closed)]
    · rw [State.handle_refused (State.admission_badarg room sound may unread)]
  case unknown =>
    rw [exec_unknownKind_opens unknown ho, State.handleUnknown]
    refine ⟨fun full => ?_, fun room => ?_⟩
    · rw [if_pos full, State.overrun]
    · rw [if_neg (Nat.not_le.mpr room), State.answer_eq, Answer.payload_plain]

end Sys2Proof.Machine
end

section
/-! PROOF. The bytes of packets: fields in a payload, and the commands that windows spell (R178 to R182). -/
namespace Sys2Proof.Machine

/-! ### Fields (R178, R180, R182) -/

/-- The bytes of fields in a row. -/
def spell (fs : List Field) : List Byte := fs.flatMap fun f => f.tag :: f.value

theorem splitFields_cons (k : Kind) (n : Nat) (tag : Byte) (rest : List Byte) :
    splitFields k (n + 1) (tag :: rest) =
      (k.fieldSize tag).bind fun size =>
        if rest.length < size then none
        else (splitFields k n (rest.drop size)).map fun fs => ⟨tag, rest.take size⟩ :: fs := by
  rw [splitFields]
  cases k.fieldSize tag <;> rfl

theorem spell_cons (f : Field) (fs : List Field) : spell (f :: fs) = f.tag :: (f.value ++ spell fs) := rfl

/-- A payload splits into fields exactly when it is they in a row, each of its tag's size. -/
theorem splitFields_eq_some {k : Kind} {n : Nat} {payload : List Byte} {fs : List Field} :
    splitFields k n payload = some fs ↔
      payload = spell fs ∧ (∀ f ∈ fs, k.fieldSize f.tag = some f.value.length) ∧ fs.length ≤ n := by
  have empty (n : Nat) (fs : List Field) : some [] = some fs ↔
      [] = spell fs ∧ (∀ f ∈ fs, k.fieldSize f.tag = some f.value.length) ∧ fs.length ≤ n := by
    cases fs with
    | nil => simp [spell]
    | cons f rest => exact ⟨nofun, fun ⟨e, _⟩ => nomatch (spell_cons f rest ▸ e)⟩
  induction n generalizing payload fs with
  | zero =>
    cases payload with
    | nil => exact empty 0 fs
    | cons tag rest =>
      refine ⟨nofun, ?_⟩
      rintro ⟨e, -, none_left⟩
      rw [List.length_eq_zero_iff.mp (Nat.le_zero.mp none_left)] at e
      cases e
  | succ n ih =>
    cases payload with
    | nil => exact empty (n + 1) fs
    | cons tag rest =>
      rw [splitFields_cons, Option.bind_eq_some_iff]
      constructor
      · rintro ⟨size, listed, divided⟩
        split at divided
        · cases divided
        · next long =>
          obtain ⟨others, left, rfl⟩ := Option.map_eq_some_iff.mp divided
          obtain ⟨spelled, sizes, bound⟩ := ih.mp left
          have value : (rest.take size).length = size := List.length_take_of_le (Nat.le_of_not_lt long)
          refine ⟨?_, List.forall_mem_cons.mpr ⟨?_, sizes⟩, Nat.succ_le_succ bound⟩
          · rw [spell_cons, ← spelled, List.take_append_drop]
          · rw [value, listed]
      · rintro ⟨spelled, sizes, bound⟩
        cases fs with
        | nil => cases spelled
        | cons f others =>
          obtain ⟨listed, sizes⟩ := List.forall_mem_cons.mp sizes
          obtain ⟨rfl, rfl⟩ := List.cons.inj ((spell_cons f others) ▸ spelled)
          have left : splitFields k n (spell others) = some others := ih.mpr ⟨rfl, sizes, Nat.le_of_succ_le_succ bound⟩
          refine ⟨_, listed, ?_⟩
          rw [if_neg (by rw [List.length_append]; omega), List.drop_left, List.take_left, left]
          rfl

/-- A payload is at least as long as its fields are many. -/
theorem length_le_spell (fs : List Field) : fs.length ≤ (spell fs).length := by
  induction fs with
  | nil => exact Nat.le_refl _
  | cons f rest ih =>
    rw [spell, List.flatMap_cons, List.length_append, List.length_cons, List.length_cons, ← spell]
    omega

theorem needsHandle_iff (k : Kind) : k.needsHandle = true ↔ k = .adjust ∨ k = .close ∨ k = .query := by
  cases k <;> simp [Kind.needsHandle]

theorem readFields_eq_some {k : Kind} {payload : List Byte} {fs : List Field} :
    readFields k payload = some fs ↔
      splitFields k payload.length payload = some fs
      ∧ (fs.map (·.tag)).Nodup ∧ (k.needsHandle = true → 0x01#8 ∈ fs.map (·.tag)) := by
  rw [readFields]
  cases splitFields k payload.length payload with
  | none => exact ⟨nofun, fun h => nomatch h.1⟩
  | some fs' =>
    dsimp only
    split
    · next sound => exact ⟨fun e => ⟨e, Option.some.inj e ▸ sound⟩, fun h => h.1⟩
    · next unsound => exact ⟨nofun, fun ⟨e, h⟩ => absurd (Option.some.inj e ▸ h) unsound⟩

theorem ofPayload_payload (lane : LaneId) {payload : List Byte} (h : payload.length ≤ 508) :
    (Window.ofPayload lane payload).payloadFault = false ∧ (Window.ofPayload lane payload).payload = payload := by
  rw [Window.ofPayload]
  split
  · next empty =>
    rw [empty]
    exact ⟨rfl, rfl⟩
  · next some_bytes =>
    have size : (BitVec.ofNat 16 payload.length).toNat = payload.length := by
      rw [BitVec.toNat_ofNat]
      omega
    have positive : BitVec.ofNat 16 payload.length ≠ 0#16 := fun e => by
      rw [e] at size
      exact some_bytes (List.length_eq_zero_iff.mp size.symm)
    have carried : Window.payload ⟨lane, BitVec.ofNat 16 payload.length,
        payload ++ [(crc16 payload).extractLsb' 8 8, (crc16 payload).extractLsb' 0 8]⟩ = payload := by
      rw [Window.payload, size, List.take_left]
    refine ⟨?_, carried⟩
    rw [Window.payloadFault, if_neg positive, size, if_neg (by omega), List.drop_left, carried]
    exact decide_eq_false (not_not.mpr BitVec.extractLsb'_append_extractLsb')

/-- Settles O5: the split into fields with R182's checks, and the frame of R178. -/
theorem payloadsAreSequencesOfFields : Obligations.PayloadsAreSequencesOfFields := by
  refine ⟨fun k payload fs => ?_, fun lane payload h => ofPayload_payload lane h⟩
  rw [readFields_eq_some, splitFields_eq_some, needsHandle_iff, ← spell]
  constructor
  · rintro ⟨⟨e, sizes, -⟩, nodup, handle⟩
    exact ⟨e, sizes, nodup, handle⟩
  · rintro ⟨e, sizes, nodup, handle⟩
    exact ⟨⟨e, sizes, e ▸ length_le_spell fs⟩, nodup, handle⟩

/-! ### Headers and commands (R178, R179, R181) -/

theorem readHeader_headerBytes (lane : LaneId) (code : BitVec 6) (length : BitVec 16) (body : List Byte) :
    readHeader (headerBytes lane code length ++ body) = some ⟨lane, code, length⟩ := by
  rw [headerBytes]
  simp only [List.cons_append, List.nil_append, readHeader, if_pos, BitVec.extractLsb'_append_eq_left,
    BitVec.extractLsb'_append_eq_right, BitVec.extractLsb'_append_extractLsb']

theorem headerBytes_of_readHeader {sdi : List Byte} {h : Header} (e : readHeader sdi = some h) :
    headerBytes h.lane h.code h.length ++ sdi.drop 4 = sdi := by
  match sdi, e with
  | b0 :: b1 :: b2 :: b3 :: rest, e =>
    rw [readHeader] at e
    split at e
    · next sound =>
      cases e
      have b0_eq : BitVec.ofFin (b0.extractLsb' 6 2).toFin ++ b0.extractLsb' 0 6 = b0 :=
        BitVec.extractLsb'_append_extractLsb'
      simp only [headerBytes, b0_eq, BitVec.extractLsb'_append_eq_right, BitVec.extractLsb'_append_eq_left]
      rw [sound]
      rfl
    · cases e

/-- A window whose header is sound and names a kind spells that kind's command. -/
theorem decodeWindow_packet (k : Kind) (w : Window) : decodeWindow (windowBytes k.code w) = commandOf k w := by
  rw [decodeWindow, windowBytes, readHeader_headerBytes]
  dsimp only
  rw [ofCode_code]
  rfl

theorem decodeWindow_unknown {code : BitVec 6} (unknown : Kind.ofCode code = none) (w : Window) :
    decodeWindow (windowBytes code w) = .unknownKind code w := by
  rw [decodeWindow, windowBytes, readHeader_headerBytes]
  dsimp only
  rw [unknown]
  rfl

theorem code_of_ofCode {code : BitVec 6} {k : Kind} (h : Kind.ofCode code = some k) : k.code = code := by
  rw [Kind.ofCode] at h
  simpa using List.find?_some h

/-- Settles O3, by the command: each packet's bytes carry its kind's code. -/
theorem packetBytesSpellTheirCommand : Obligations.PacketBytesSpellTheirCommand := by
  intro c bytes wf h
  have action {w : Window} {c' : Instr} (e : commandOf .setMode w = c') :
      decodeWindow (windowBytes Kind.setMode.code w) = c' := (decodeWindow_packet .setMode w).trans e
  cases c
  case headerFault sdi =>
    cases h
    rw [decodeWindow, Option.isNone_iff_eq_none.mp wf]
  case unknownKind code w =>
    cases h
    exact decodeWindow_unknown (Option.isNone_iff_eq_none.mp wf) w
  case setModeRun w =>
    cases h
    refine action ?_
    obtain ⟨not_setup, not_on, not_off⟩ := of_decide_eq_true wf
    rw [commandOf]
    split
    · next names => exact absurd names not_setup
    · next names => exact absurd names not_on
    · next names => exact absurd names not_off
    · rfl
  case setModeSetup w | hushOn w | hushOff w =>
    cases h
    refine action ?_
    rw [commandOf, of_decide_eq_true wf]
    rfl
  case powerOn | rstNAssert | rstNRelease | wakeFall | faultClearPulse | entryToStandby | wakeUp | wakeUpStopped
      | endOfWakeUp | endOfLeaving | pass | passReport | holdTimerExpiry | slewStep | staleTimerExpiry | toneWalkExpiry
      | frameEvent | frameDiscard | clockLoss | overloadEvent | retryTimerExpiry | escalationWindowExpiry | awarnSample
      | thermalHoldExpiry | crankNSample | crankReleaseTimerExpiry | routeTableMillisecondEvent | frameBegin
      | packetWindowBegin =>
    cases h
  all_goals
    cases h
    exact decodeWindow_packet _ _

/-- The command of a kind is well formed and has that kind's bytes. -/
theorem commandOf_spelled (k : Kind) (w : Window) :
    (commandOf k w).wf = true ∧ encodeWindow (commandOf k w) = some (windowBytes k.code w) := by
  cases k
  case setMode =>
    rw [commandOf]
    split
    · next action => exact ⟨decide_eq_true action, rfl⟩
    · next action => exact ⟨decide_eq_true action, rfl⟩
    · next action => exact ⟨decide_eq_true action, rfl⟩
    · next not_setup not_on not_off => exact ⟨decide_eq_true ⟨not_setup, not_on, not_off⟩, rfl⟩
  all_goals exact ⟨rfl, rfl⟩

/-- Settles O4, by the window's header and its kind code. -/
theorem everyWindowSpellsOneCommand : Obligations.EveryWindowSpellsOneCommand := by
  intro bytes
  cases header : readHeader bytes with
  | none =>
    rw [decodeWindow, header]
    exact ⟨Option.isNone_iff_eq_none.mpr header, rfl⟩
  | some h =>
    obtain ⟨w, hw⟩ : ∃ w : Window, w = ⟨h.lane, h.length, bytes.drop 4⟩ := ⟨_, rfl⟩
    have spelled : windowBytes h.code w = bytes := by
      rw [hw]
      exact headerBytes_of_readHeader header
    rw [← spelled]
    cases kind : Kind.ofCode h.code with
    | none =>
      rw [decodeWindow_unknown kind]
      exact ⟨Option.isNone_iff_eq_none.mpr kind, rfl⟩
    | some k =>
      rw [← code_of_ofCode kind, decodeWindow_packet]
      exact commandOf_spelled k w

end Sys2Proof.Machine
end
